-- ==== Sys2Proof/Word.lean ====
section
/-! DEFINITION. The words of the block: bytes, 16-bit and 32-bit words, and the typed operand records
of spec/10_state.md section 3 (Address, Frame, Message), the two roles, and the environment's pick
of a transform for a received Frame. -/

namespace Sys2Proof

/-- 8 bits (00_scope.md section 4). -/
abbrev Byte := BitVec 8

/-- 16 bits: a type tag, a Message length, a header word `(kind << 8) | identifier`. -/
abbrev Word16 := BitVec 16

/-- 32 bits: a checksum, the accumulator, the telemetry counter. -/
abbrev Word32 := BitVec 32

/-- A byte string: a finite sequence of bytes, number 0 first (00_scope.md section 4). -/
abbrev Bytes := List Byte

/-- An Address: six raw bytes, `b0` first on the wire (R13, R31). Equality is byte-wise. -/
structure Address where
  b0 : Byte
  b1 : Byte
  b2 : Byte
  b3 : Byte
  b4 : Byte
  b5 : Byte
deriving DecidableEq, Repr

/-- The Frame record of R13. `typeTag` and `checksum` are held as numbers. -/
structure Frame where
  destination : Address
  source : Address
  typeTag : Word16
  payload : Bytes
  checksum : Word32
deriving DecidableEq, Repr

/-- The Message record of R15. -/
structure Message where
  kind : Byte
  identifier : Byte
  length : Word16
  data : Bytes
deriving DecidableEq, Repr

/-- The two roles, the block's two "modes" (R133). -/
inductive Role
  | host
  | device
deriving DecidableEq, Repr

/-- What the environment does to one Frame between "as produced" and "as received" (R104).
`identity` leaves it; `xorByte k x` replaces `W[k]` by `W[k] ^ x`; `replace w` stands for any other
function on byte strings, given by its value on this Frame (R9, `CORRUPT`). -/
inductive Transform
  | identity
  | xorByte (offset : Nat) (mask : Byte)
  | replace (received : Bytes)
deriving DecidableEq, Repr

end Sys2Proof
end

