-- ==== Sys2Proof/Config.lean ====
section
/-! DEFINITION. The constants of R8 and the open parameters of R9 (spec/00_scope.md section 3). -/

namespace Sys2Proof

/-- `PAYLOAD_MIN`, the least Frame payload length (R8). -/
abbrev payloadMin : Nat := 46
/-- `PAYLOAD_MAX`, the greatest Frame payload length (R8). -/
abbrev payloadMax : Nat := 1500
/-- `FRAME_OVERHEAD` = 12 + 2 + 4 (R8). -/
abbrev frameOverhead : Nat := 18
/-- `FRAME_MIN`, the least encoded Frame length (R8). -/
abbrev frameMin : Nat := 64
/-- `FRAME_MAX`, the greatest encoded Frame length (R8). -/
abbrev frameMax : Nat := 1518
/-- `MSG_HDR_LEN` = kind, identifier and length (R8). -/
abbrev msgHdrLen : Nat := 4
/-- `MSG_DATA_MAX` = 2^16 - 1 (R8). -/
abbrev msgDataMax : Nat := 65535
/-- `MSG_MIN_LEN` = `PAYLOAD_MIN` (R8). -/
abbrev msgMinLen : Nat := 46
/-- `CRC_POLY_REV`, the reflected polynomial (R8). -/
abbrev crcPolyRev : Word32 := 0xEDB88320
/-- `CRC_INIT`, the initial accumulator (R8). -/
abbrev crcInitValue : Word32 := 0xFFFFFFFF
/-- `CRC_XOROUT`, the final exclusive or (R8). -/
abbrev crcXorOut : Word32 := 0xFFFFFFFF

/-- `LEN_ORDER`: byte order of the Message length field (R9, R31). -/
inductive LenOrder
  | le
  | be
deriving DecidableEq, Repr

/-- `ADDR_FILTER`: what the receive address check compares (R9, R103). -/
inductive AddrFilter
  | dstOnly
  | dstAndSrc
  | off
deriving DecidableEq, Repr

/-- `STREAM_PHASE`: whether the stream emission samples `DEV.STREAMING` after or before the poll's
command (R9, R107). -/
inductive StreamPhase
  | postCmd
  | preCmd
deriving DecidableEq, Repr

/-- A class of transforms that the set `CORRUPT` may hold (R9). `identity`, and `singleByte`, what
R104's fault-testing set adds, are R104's; `singleBit` is the source's "single-bit corruption" alone;
`every` holds all functions on byte strings; `other n` is any further set of them, numbered `n`, of
which nothing is known but what `Config.corruptOther` is (log 13). -/
inductive TransformClass
  | identity
  | singleByte
  | singleBit
  | every
  | other (n : Nat)
deriving DecidableEq, Repr

/-- `CORRUPT`: a set of functions on byte strings, as the union of classes (R9, R104; log 13). -/
abbrev CorruptSet := List TransformClass

/-- The default of R9: "the set holding only the identity". -/
abbrev CorruptSet.identityOnly : CorruptSet := [.identity]

/-- The fault-testing set of R104: the identity and every non-zero change of one byte. -/
abbrev CorruptSet.faultTesting : CorruptSet := [.identity, .singleByte]

/-- Whether the set number `set` of functions on byte strings holds one that takes `sent` to
`received`. An open choice of the environment: no value of it can be proved (log 13). -/
opaque Config.corruptOther (set : Nat) (sent received : Bytes) : Bool

/-- The open parameters of R9, all of them, each with the default R9 gives it: `LINK_TYPE` is
`TYPE_IPV4` unless said, and the two addresses have no default. They are fixed for a run (R25): no
step writes them. -/
structure Params where
  lenOrder : LenOrder := .le
  typeIpv4 : Word16 := 0x0800
  typeIpv6 : Word16 := 0x86DD
  typeArp : Word16 := 0x0806
  hostAddr : Address
  deviceAddr : Address
  linkType : Word16 := typeIpv4
  addrFilter : AddrFilter := .dstOnly
  streamPhase : StreamPhase := .postCmd
  counterReset : Word32 := 0x00000000
  corrupt : CorruptSet := .identityOnly
deriving DecidableEq, Repr

/-- The defaults of R9. `HOST_ADDR` and `DEVICE_ADDR` have no default: DESIGN CHOICE, unsafe, the
test addresses of spec/95_test_vectors.md (log 9). -/
def Params.default : Params where
  hostAddr := ⟨0x02, 0x00, 0x00, 0x00, 0x00, 0x01⟩
  deviceAddr := ⟨0x02, 0x00, 0x00, 0x00, 0x00, 0x02⟩

/-- The three named type tags have three different numbers (true of the defaults of R9). -/
abbrev Params.TagsDistinct (p : Params) : Prop :=
  p.typeIpv4 ≠ p.typeIpv6 ∧ p.typeIpv4 ≠ p.typeArp ∧ p.typeIpv6 ≠ p.typeArp

end Sys2Proof
end

