-- ==== Sys2Proof/Syntax.lean ====
section
/-! DEFINITION. The abstract syntax: one constructor for each of the 38 rows of
spec/opcode_table.json, with the operands spec/30_encoding.md R61 and R64 give the row. -/

namespace Sys2Proof

/-- The rows of the opcode table. Group `OP` (R61): the operations the environment invokes.
Group `MSG_HDR` (R64): one Message as a role's router tells it apart. Group `MSG_NAME` (R64): a named
Message. Group `FRAME_TYPE` (R64): a named type tag. -/
inductive Instr
  /-- `RESET`, op 0x00 (R140). -/
  | reset
  /-- `CRC.INIT`, op 0x01 (R66). -/
  | crcInit
  /-- `CRC.UPDATE(byte)`, op 0x02 (R67). -/
  | crcUpdate (byte : Byte)
  /-- `CRC.FINAL`, op 0x03 (R68). -/
  | crcFinal
  /-- `CRC.CHECKSUM(chunks)`, op 0x04 (R69). -/
  | crcChecksum (chunks : List Bytes)
  /-- `FRAME.NEW(dst, src, type, payload)`, op 0x08 (R77). -/
  | frameNew (dst src : Address) (typeTag : Word16) (payload : Bytes)
  /-- `FRAME.ENCODE(f)`, op 0x09 (R78). -/
  | frameEncode (f : Frame)
  /-- `FRAME.DECODE(W)`, op 0x0A (R79). -/
  | frameDecode (w : Bytes)
  /-- `FRAME.IS_VALID(f)`, op 0x0B (R80). -/
  | frameIsValid (f : Frame)
  /-- `FRAME.SET_DST(f, dst)`, op 0x0C (R81). -/
  | frameSetDst (f : Frame) (dst : Address)
  /-- `FRAME.SET_SRC(f, src)`, op 0x0D (R82). -/
  | frameSetSrc (f : Frame) (src : Address)
  /-- `FRAME.SET_TYPE(f, type)`, op 0x0E (R83). -/
  | frameSetType (f : Frame) (typeTag : Word16)
  /-- `FRAME.SET_PAYLOAD(f, payload, suppress)`, op 0x0F (R84). -/
  | frameSetPayload (f : Frame) (payload : Bytes) (suppress : Bool)
  /-- `MSG.PACK(kind, identifier, data)`, op 0x10 (R91). -/
  | msgPack (kind identifier : Byte) (data : Bytes)
  /-- `MSG.UNPACK(P)`, op 0x11 (R93). -/
  | msgUnpack (p : Bytes)
  /-- `LINK.TX(role, M)`, op 0x14 (R101). -/
  | linkTx (role : Role) (m : Bytes)
  /-- `LINK.RX(role)`, op 0x15 (R102), with the environment's transform (R104). -/
  | linkRx (role : Role) (t : Transform)
  /-- `DEV.POLL`, op 0x18 (R107), with the environment's transform (R104). -/
  | devPoll (t : Transform)
  /-- `HOST.SEND_COMMAND(id, data)`, op 0x1C (R114). -/
  | hostSendCommand (id : Byte) (data : Bytes)
  /-- `HOST.POLL`, op 0x1D (R115), with the environment's transform (R104). -/
  | hostPoll (t : Transform)
  /-- `CMD.PING`: word 0x0101 at the Device (R108). -/
  | cmdPing (data : Bytes)
  /-- `CMD.START_STREAM`: word 0x0102 at the Device (R109). -/
  | cmdStartStream (data : Bytes)
  /-- `CMD.STOP_STREAM`: word 0x0103 at the Device (R110). -/
  | cmdStopStream (data : Bytes)
  /-- `CMD.UNKNOWN`: kind COMMAND with any other identifier at the Device (R111). -/
  | cmdUnknown (id : Byte) (data : Bytes)
  /-- `DEV.NOT_COMMAND`: any other kind at the Device (R113). -/
  | devNotCommand (kind identifier : Byte) (data : Bytes)
  /-- `EVT.RESPONSE`: kind RESPONSE at the Host (R115). -/
  | evtResponse (identifier : Byte) (data : Bytes)
  /-- `EVT.STREAM`: kind STREAM at the Host (R115). -/
  | evtStream (identifier : Byte) (data : Bytes)
  /-- `EVT.ERROR`: kind ERROR at the Host (R115). -/
  | evtError (identifier : Byte) (data : Bytes)
  /-- `HOST.REJECT`: any other kind at the Host (R117). -/
  | hostReject (kind identifier : Byte) (data : Bytes)
  /-- `RESPONSE.PING`: the Message `RESPONSE(PING, "PONG")` (R54, R63). -/
  | responsePing
  /-- `RESPONSE.START_STREAM`: the Message `RESPONSE(START_STREAM, "OK")` (R54, R63). -/
  | responseStartStream
  /-- `RESPONSE.STOP_STREAM`: the Message `RESPONSE(STOP_STREAM, "OK")` (R54, R63). -/
  | responseStopStream
  /-- `STREAM.TELEMETRY`: the Message `STREAM(TELEMETRY, counter)` (R52, R63). -/
  | streamTelemetry
  /-- `ERROR.UNKNOWN_CMD`: the Message `ERROR(UNKNOWN_CMD)` (R53, R63). -/
  | errorUnknownCmd
  /-- `ERROR.BAD_PAYLOAD`: the Message `ERROR(BAD_PAYLOAD, data)`, never emitted (R53). -/
  | errorBadPayload (data : Bytes)
  /-- `TYPE.IPV4`, the type tag of that name (R47). -/
  | typeIpv4
  /-- `TYPE.IPV6`, the type tag of that name (R47). -/
  | typeIpv6
  /-- `TYPE.ARP`, the type tag of that name (R47). -/
  | typeArp
deriving DecidableEq, Repr

end Sys2Proof
end

