-- ==== Sys2Proof/WellFormed.lean ====
section
/-! DEFINITION. Well-formed operands: what the spec says of an operand beyond its width. Nothing in
the machine refuses an ill-formed operand (log 14): well-formedness is a premise of statements. -/

namespace Sys2Proof

/-- A Frame's payload has 46 to 1500 bytes (R13). -/
abbrev Frame.WellFormed (f : Frame) : Prop :=
  payloadMin ≤ f.payload.length ∧ f.payload.length ≤ payloadMax

/-- The data of a Message has at most 65535 bytes (R15). -/
abbrev DataFits (data : Bytes) : Prop := data.length ≤ msgDataMax

/-- A byte change is by a non-zero mask (R104). -/
def Transform.wellFormed : Transform → Bool
  | .identity => true
  | .xorByte _ mask => decide (mask ≠ 0)
  | .replace _ => true

/-- The identifier is none of the three named commands (R51, R56). -/
abbrev IsUnknownCommand (id : Byte) : Prop := id ≠ 0x01 ∧ id ≠ 0x02 ∧ id ≠ 0x03

/-- The Host must never receive this kind (R105). -/
abbrev HostRejects (kind : Byte) : Prop := kind ≠ 0x02 ∧ kind ≠ 0x03 ∧ kind ≠ 0x04

/-- Every operand of the instruction is one the spec lets exist. -/
def Instr.wellFormed : Instr → Bool
  | .reset => true
  | .crcInit => true
  | .crcUpdate _ => true
  | .crcFinal => true
  | .crcChecksum _ => true
  | .frameNew _ _ _ _ => true
  | .frameEncode f => decide f.WellFormed
  | .frameDecode _ => true
  | .frameIsValid f => decide f.WellFormed
  | .frameSetDst f _ => decide f.WellFormed
  | .frameSetSrc f _ => decide f.WellFormed
  | .frameSetType f _ => decide f.WellFormed
  | .frameSetPayload f _ _ => decide f.WellFormed
  | .msgPack _ _ _ => true
  | .msgUnpack _ => true
  | .linkTx _ _ => true
  | .linkRx _ t => t.wellFormed
  | .devPoll t => t.wellFormed
  | .hostSendCommand _ _ => true
  | .hostPoll t => t.wellFormed
  | .cmdPing data => decide (DataFits data)
  | .cmdStartStream data => decide (DataFits data)
  | .cmdStopStream data => decide (DataFits data)
  | .cmdUnknown id data => decide (IsUnknownCommand id ∧ DataFits data)
  | .devNotCommand kind _ data => decide (kind ≠ 0x01 ∧ DataFits data)
  | .evtResponse _ data => decide (DataFits data)
  | .evtStream _ data => decide (DataFits data)
  | .evtError _ data => decide (DataFits data)
  | .hostReject kind _ data => decide (HostRejects kind ∧ DataFits data)
  | .responsePing => true
  | .responseStartStream => true
  | .responseStopStream => true
  | .streamTelemetry => true
  | .errorUnknownCmd => true
  | .errorBadPayload data => decide (DataFits data)
  | .typeIpv4 => true
  | .typeIpv6 => true
  | .typeArp => true

end Sys2Proof
end

