-- ==== Sys2Proof/Decode.lean ====
section
/-! DEFINITION. What the block decodes as its "opcode" (spec/30_encoding.md R50 to R64): the 5-bit
operation-select code with its operand ports, and the header word `(kind << 8) | identifier` of a
Message at each role's router; then the encoder. -/

namespace Sys2Proof

/-- The operand inputs beside the `op` input (R61, column "inputs"); at rest each carries zeros.
The Frame port carries a Frame, so at rest the all-zero Frame of least length (R13).
`suppress` is 0 when the caller does not give it (R84). -/
structure Ports where
  role : Role := .host
  byte : Byte := 0
  kind : Byte := 0
  identifier : Byte := 0
  typeTag : Word16 := 0
  dst : Address := ⟨0, 0, 0, 0, 0, 0⟩
  src : Address := ⟨0, 0, 0, 0, 0, 0⟩
  frame : Frame := ⟨⟨0, 0, 0, 0, 0, 0⟩, ⟨0, 0, 0, 0, 0, 0⟩, 0, List.replicate payloadMin 0, 0⟩
  suppress : Bool := false
  buffer : Bytes := []
  chunks : List Bytes := []
  transform : Transform := .identity
deriving DecidableEq, Repr

/-- What can stand at the command port. `op` is an operation (R61). `header` is a Message, already
unpacked, at the input of a role's router (R64, group `MSG_HDR`; log 5). `tag` asks for a named type
tag (R64, group `FRAME_TYPE`; log 7). No request selects a row of group `MSG_NAME`: "a model must not
dispatch on these rows" (R64; log 6). -/
inductive Request
  | op (code : BitVec 5) (ports : Ports)
  | header (receiver : Role) (word : Word16) (data : Bytes)
  | tag (word : Word16)
deriving DecidableEq, Repr

/-- Why a request selects no row of the opcode table. -/
inductive DecodeRefusal
  /-- The operation-select code is unlisted: it "select[s] nothing" (R61). -/
  | unlistedOp (code : BitVec 5)
  /-- The word is none of the three named type tags (R64, group `FRAME_TYPE`). -/
  | unnamedTag (word : Word16)
deriving DecidableEq, Repr

/-- A Message as the Device's router tells it apart (R107 and the five Device rows of R64); the
identifier stands only where its kind gives it a meaning (R149). -/
inductive DevHeader
  | ping
  | startStream
  | stopStream
  | unknownCommand (id : Byte)
  | notCommand (kind identifier : Byte)
deriving DecidableEq, Repr

/-- A Message as the Host's router tells it apart (R115 and the four Host rows of R64). -/
inductive HostHeader
  | response (identifier : Byte)
  | stream (identifier : Byte)
  | error (identifier : Byte)
  | reject (kind identifier : Byte)
deriving DecidableEq, Repr

/-- The matched word of R64: `(kind << 8) | identifier`. -/
def headerWord (kind identifier : Byte) : Word16 := kind ++ identifier

/-- Byte 0 of the Message, from the header word. -/
def wordKind (w : Word16) : Byte := w.extractLsb' 8 8

/-- Byte 1 of the Message, from the header word. -/
def wordIdentifier (w : Word16) : Byte := w.extractLsb' 0 8

/-- A row with this match and mask takes the word (R64). -/
def rowHits (pattern mask w : Word16) : Bool := w &&& mask == pattern

/-- The Device's rows of R64 in increasing priority; the last takes every word. -/
def devHeader (w : Word16) : DevHeader :=
  if rowHits 0x0101 0xFFFF w then .ping
  else if rowHits 0x0102 0xFFFF w then .startStream
  else if rowHits 0x0103 0xFFFF w then .stopStream
  else if rowHits 0x0100 0xFF00 w then .unknownCommand (wordIdentifier w)
  else .notCommand (wordKind w) (wordIdentifier w)

/-- The Host's rows of R64 in increasing priority; the last takes every word. -/
def hostHeader (w : Word16) : HostHeader :=
  if rowHits 0x0200 0xFF00 w then .response (wordIdentifier w)
  else if rowHits 0x0300 0xFF00 w then .stream (wordIdentifier w)
  else if rowHits 0x0400 0xFF00 w then .error (wordIdentifier w)
  else .reject (wordKind w) (wordIdentifier w)

/-- The table R61: one operation for each listed code. -/
def decodeOp (code : BitVec 5) (p : Ports) : Except DecodeRefusal Instr :=
  match code.toNat with
  | 0x00 => .ok .reset
  | 0x01 => .ok .crcInit
  | 0x02 => .ok (.crcUpdate p.byte)
  | 0x03 => .ok .crcFinal
  | 0x04 => .ok (.crcChecksum p.chunks)
  | 0x08 => .ok (.frameNew p.dst p.src p.typeTag p.buffer)
  | 0x09 => .ok (.frameEncode p.frame)
  | 0x0A => .ok (.frameDecode p.buffer)
  | 0x0B => .ok (.frameIsValid p.frame)
  | 0x0C => .ok (.frameSetDst p.frame p.dst)
  | 0x0D => .ok (.frameSetSrc p.frame p.src)
  | 0x0E => .ok (.frameSetType p.frame p.typeTag)
  | 0x0F => .ok (.frameSetPayload p.frame p.buffer p.suppress)
  | 0x10 => .ok (.msgPack p.kind p.identifier p.buffer)
  | 0x11 => .ok (.msgUnpack p.buffer)
  | 0x14 => .ok (.linkTx p.role p.buffer)
  | 0x15 => .ok (.linkRx p.role p.transform)
  | 0x18 => .ok (.devPoll p.transform)
  | 0x1C => .ok (.hostSendCommand p.identifier p.buffer)
  | 0x1D => .ok (.hostPoll p.transform)
  | _ => .error (.unlistedOp code)

/-- The row a role's router selects for a Message (R64, group `MSG_HDR`). -/
def decodeHeader (receiver : Role) (w : Word16) (data : Bytes) : Instr :=
  match receiver with
  | .device =>
    match devHeader w with
    | .ping => .cmdPing data
    | .startStream => .cmdStartStream data
    | .stopStream => .cmdStopStream data
    | .unknownCommand id => .cmdUnknown id data
    | .notCommand kind id => .devNotCommand kind id data
  | .host =>
    match hostHeader w with
    | .response id => .evtResponse id data
    | .stream id => .evtStream id data
    | .error id => .evtError id data
    | .reject kind id => .hostReject kind id data

/-- The named type tags (R64, group `FRAME_TYPE`), whose numbers are parameters (R47). -/
def decodeTag (p : Params) (w : Word16) : Except DecodeRefusal Instr :=
  if w = p.typeIpv4 then .ok .typeIpv4
  else if w = p.typeIpv6 then .ok .typeIpv6
  else if w = p.typeArp then .ok .typeArp
  else .error (.unnamedTag w)

/-- The decoder, total on every request. -/
def decode (p : Params) : Request → Except DecodeRefusal Instr
  | .op code ports => decodeOp code ports
  | .header receiver w data => .ok (decodeHeader receiver w data)
  | .tag w => decodeTag p w

/-- The request that stands for a bare word of the opcode table, every operand port at rest: a row of
at most 8 bits is an operation-select code; a row of 16 bits is a named type tag, a header word at the
Host for the kinds it accepts, or else a header word at the Device, in that order (log 8). -/
def tableRequest (nbits w : Nat) : Request :=
  if nbits ≤ 8 then .op (BitVec.ofNat 5 w) {}
  else if w ∈ [0x0800, 0x86DD, 0x0806] then .tag (BitVec.ofNat 16 w)
  else if w / 256 ∈ [0x02, 0x03, 0x04] then .header .host (BitVec.ofNat 16 w) []
  else .header .device (BitVec.ofNat 16 w) []

/-- The instruction the decoder reads from a bare word of the opcode table. -/
def decodeTableWord (nbits w : Nat) : Option Instr :=
  match decode Params.default (tableRequest nbits w) with
  | .ok i => some i
  | .error _ => none

/-- The encoder: the request that selects an instruction, from R61 and R64. A named Message, which
nothing selects, is the Message of that name as the Host's router meets it, without the data where
that is immaterial (R62, R63; log 6). -/
def encode (p : Params) : Instr → Request
  | .reset => .op 0x00 {}
  | .crcInit => .op 0x01 {}
  | .crcUpdate byte => .op 0x02 { byte := byte }
  | .crcFinal => .op 0x03 {}
  | .crcChecksum chunks => .op 0x04 { chunks := chunks }
  | .frameNew dst src typeTag payload =>
    .op 0x08 { dst := dst, src := src, typeTag := typeTag, buffer := payload }
  | .frameEncode f => .op 0x09 { frame := f }
  | .frameDecode w => .op 0x0A { buffer := w }
  | .frameIsValid f => .op 0x0B { frame := f }
  | .frameSetDst f dst => .op 0x0C { frame := f, dst := dst }
  | .frameSetSrc f src => .op 0x0D { frame := f, src := src }
  | .frameSetType f typeTag => .op 0x0E { frame := f, typeTag := typeTag }
  | .frameSetPayload f payload suppress =>
    .op 0x0F { frame := f, buffer := payload, suppress := suppress }
  | .msgPack kind identifier data =>
    .op 0x10 { kind := kind, identifier := identifier, buffer := data }
  | .msgUnpack buffer => .op 0x11 { buffer := buffer }
  | .linkTx role m => .op 0x14 { role := role, buffer := m }
  | .linkRx role t => .op 0x15 { role := role, transform := t }
  | .devPoll t => .op 0x18 { transform := t }
  | .hostSendCommand id data => .op 0x1C { identifier := id, buffer := data }
  | .hostPoll t => .op 0x1D { transform := t }
  | .cmdPing data => .header .device 0x0101 data
  | .cmdStartStream data => .header .device 0x0102 data
  | .cmdStopStream data => .header .device 0x0103 data
  | .cmdUnknown id data => .header .device (headerWord 0x01 id) data
  | .devNotCommand kind id data => .header .device (headerWord kind id) data
  | .evtResponse id data => .header .host (headerWord 0x02 id) data
  | .evtStream id data => .header .host (headerWord 0x03 id) data
  | .evtError id data => .header .host (headerWord 0x04 id) data
  | .hostReject kind id data => .header .host (headerWord kind id) data
  | .responsePing => .header .host 0x0201 [0x50, 0x4F, 0x4E, 0x47]
  | .responseStartStream => .header .host 0x0202 [0x4F, 0x4B]
  | .responseStopStream => .header .host 0x0203 [0x4F, 0x4B]
  | .streamTelemetry => .header .host 0x0301 []
  | .errorUnknownCmd => .header .host 0x0401 []
  | .errorBadPayload data => .header .host 0x0402 data
  | .typeIpv4 => .tag p.typeIpv4
  | .typeIpv6 => .tag p.typeIpv6
  | .typeArp => .tag p.typeArp

end Sys2Proof
end

