-- ==== Sys2Proof/Machine/State.lean ====
section
/-! DEFINITION. The state of the block (spec/10_state.md), the outputs of its ports, its error
results (spec/60_exceptions.md R120), and the reasons a step can stop. -/

namespace Sys2Proof.Machine

/-- The errors an operation can report, with the `info` of R120. Each is a RESULT (R127), never a
stop of the machine. -/
inductive BlockError
  | frameTooShort (length : Nat)
  | frameTooLong (length : Nat)
  | checksumMismatch
  | payloadOutOfBounds (length : Nat)
  | dataTooLarge (length : Nat)
  | msgTooShort (length : Nat)
  | lengthExceedsBuffer (field length : Nat)
  | protocolViolation (kind : Byte)
deriving DecidableEq, Repr

/-- The classes of R121 that an error result can have. -/
inductive ErrorClass
  | sizeViolation
  | checksumMismatch
  | truncatedBuffer
  | protocolViolation
deriving DecidableEq, Repr

/-- The class of a host event (R116). -/
inductive EventClass
  | response
  | stream
  | error
deriving DecidableEq, Repr

/-- One event on the host event port (R116). -/
structure HostEvent where
  eventClass : EventClass
  identifier : Byte
  data : Bytes
deriving DecidableEq, Repr

/-- The value of a result `Ok(value)` (R61, column "result on Ok"). -/
inductive Value
  | none
  | word (v : Word32)
  | frame (f : Frame)
  | bytes (b : Bytes)
  | bit (b : Bool)
  | message (m : Message)
  | received (payload : Option Bytes)
  | event (e : Option HostEvent)
  | tag (v : Word16)
deriving DecidableEq, Repr

/-- What the result port carries: `Ok(value)` or `Err(code)` (R20). -/
inductive Result
  | ok (v : Value)
  | err (e : BlockError)
deriving DecidableEq, Repr

/-- The configuration registers `CFG.*` of R19. -/
structure Cfg where
  hostAddr : Address
  deviceAddr : Address
  linkType : Word16
  lenOrder : LenOrder
  addrFilter : AddrFilter
  streamPhase : StreamPhase
deriving DecidableEq, Repr

/-- The configuration registers as reset loads them from the parameters (R19, R140). -/
def Cfg.ofParams (p : Params) : Cfg where
  hostAddr := p.hostAddr
  deviceAddr := p.deviceAddr
  linkType := p.linkType
  lenOrder := p.lenOrder
  addrFilter := p.addrFilter
  streamPhase := p.streamPhase

/-- The state. `streaming`, `counter`, `cfg` are R16, R17, R19; `acc` is `CRC.ACC` and `accReady`
says whether a `CRC.INIT` was issued since reset (R11); `h2d`, `d2h` are the two wire channels, head
first (R21). The other four fields are the model's own: `params` the open parameters (R9, R25; log
10), `pending` the requests waiting at the command port, first first (R14; log 2), `out` and `event`
what the last operation drove on the result port and on the host event port (R20; log 4). -/
structure State where
  streaming : Bool
  counter : Word32
  cfg : Cfg
  acc : Word32
  accReady : Bool
  h2d : List Bytes
  d2h : List Bytes
  params : Params
  pending : List Request
  out : Option Result
  event : Option HostEvent
deriving DecidableEq, Repr

/-- The machine stops with a fault: never. The spec gives the block no error that halts it (R127,
R129, R132): every error is a result on the result port of a next state. Safe. -/
inductive Fault
deriving DecidableEq, Repr

/-- Why the model gives a step no meaning. -/
inductive Refusal
  /-- An instruction whose arm has no meaning yet. Raised by an arm of `exec`; none is left. Safe. -/
  | notModelled (mnemonic : String)
  /-- The operation-select code is unlisted (R61). Raised by `step` on decoding. Safe. -/
  | unlistedOp (code : BitVec 5)
  /-- The word is no named type tag (R64). Raised by `step` on decoding. Safe. -/
  | unnamedTag (word : Word16)
  /-- `CRC.UPDATE` or `CRC.FINAL` before any `CRC.INIT` since reset "has no meaning" (R11, R67;
  93_implementation_defined.md U7 `refuse`). Raised by those two meanings. Safe. -/
  | crcBeforeInit
  /-- The environment picked a transform that the parameter `CORRUPT` does not hold (R104): there is
  no such step. Raised by `LINK.RX`, `DEV.POLL`, `HOST.POLL` on a Frame. Safe. -/
  | transformNotAllowed
deriving DecidableEq, Repr

/-- The three outcomes of a step of this block. -/
abbrev Outcome := Host.Outcome State Fault Refusal

/-- The value the model names for `CRC.ACC` after reset, which the spec leaves unspecified (R23).
DESIGN CHOICE, unsafe (log 11); no operation reads it before `CRC.INIT` writes. -/
def accAtReset : Word32 := 0

/-- The state after reset under given parameters (R23). -/
def State.resetUnder (p : Params) : State where
  streaming := false
  counter := p.counterReset
  cfg := Cfg.ofParams p
  acc := accAtReset
  accReady := false
  h2d := []
  d2h := []
  params := p
  pending := []
  out := none
  event := none

/-- The machine right after reset (R23, R141), under the default parameters (R9). -/
def State.reset : State := State.resetUnder Params.default

end Sys2Proof.Machine
end

