-- ==== Sys2Proof/Machine/Operands.lean ====
section
/-! DEFINITION. Operand forms: how multi-byte values lie in byte strings (spec/20_memory.md R31 to
R35, the byte-order helpers of spec/00_scope.md section 4), slices of buffers, and the transform of
a Frame in transit (R104). -/

namespace Sys2Proof.Machine

/-- The six bytes of an Address, byte 0 first (R31). -/
def addrBytes (a : Address) : Bytes := [a.b0, a.b1, a.b2, a.b3, a.b4, a.b5]

/-- `B[i]` (00_scope.md section 4); rules that use it have checked the length first. -/
def byteAt (b : Bytes) (i : Nat) : Byte := b.getD i 0

/-- `B[from..to)` (00_scope.md section 4, `MemRead`). -/
def slice (b : Bytes) (lo hi : Nat) : Bytes := (b.drop lo).take (hi - lo)

/-- `zeros(n)`. -/
def zeros (n : Nat) : Bytes := List.replicate n 0

/-- The Address whose six bytes begin at offset `i` of a buffer (R35). -/
def addrAt (b : Bytes) (i : Nat) : Address :=
  ⟨byteAt b i, byteAt b (i + 1), byteAt b (i + 2), byteAt b (i + 3), byteAt b (i + 4),
    byteAt b (i + 5)⟩

/-- `be16(v) = [v[15:8], v[7:0]]`. -/
def be16 (v : Word16) : Bytes := [v.extractLsb' 8 8, v.extractLsb' 0 8]

/-- `le16(v) = [v[7:0], v[15:8]]`. -/
def le16 (v : Word16) : Bytes := [v.extractLsb' 0 8, v.extractLsb' 8 8]

/-- `le32(v)`: least significant byte first. -/
def le32 (v : Word32) : Bytes :=
  [v.extractLsb' 0 8, v.extractLsb' 8 8, v.extractLsb' 16 8, v.extractLsb' 24 8]

/-- `from_be16` of the two bytes at offset `i`. -/
def be16At (b : Bytes) (i : Nat) : Word16 := byteAt b i ++ byteAt b (i + 1)

/-- `from_le16` of the two bytes at offset `i`. -/
def le16At (b : Bytes) (i : Nat) : Word16 := byteAt b (i + 1) ++ byteAt b i

/-- `from_le32` of the four bytes at offset `i`. -/
def le32At (b : Bytes) (i : Nat) : Word32 :=
  byteAt b (i + 3) ++ byteAt b (i + 2) ++ byteAt b (i + 1) ++ byteAt b i

/-- `len16(v)`: the Message length field in the configured order (R31, R49). -/
def len16 (order : LenOrder) (v : Word16) : Bytes :=
  match order with
  | .le => le16 v
  | .be => be16 v

/-- `from_len16` of the two bytes at offset `i` (R49). -/
def len16At (order : LenOrder) (b : Bytes) (i : Nat) : Word16 :=
  match order with
  | .le => le16At b i
  | .be => be16At b i

/-- What the transform makes of a Frame in transit (R104). -/
def applyTransform (t : Transform) (w : Bytes) : Bytes :=
  match t with
  | .identity => w
  | .xorByte k mask => w.modify k (· ^^^ mask)
  | .replace received => received

/-- The data bytes of `"PONG"`, ASCII without terminator (R63, R106). -/
def pongData : Bytes := [0x50, 0x4F, 0x4E, 0x47]

/-- The data bytes of `"OK"`, ASCII without terminator (R63, R106). -/
def okData : Bytes := [0x4F, 0x4B]

/-- Kind code points (R50). -/
def kindCommand : Byte := 0x01
/-- `RESPONSE` (R50). -/
def kindResponse : Byte := 0x02
/-- `STREAM` (R50). -/
def kindStream : Byte := 0x03
/-- `ERROR` (R50). -/
def kindError : Byte := 0x04

/-- Command identifiers (R51), echoed by the responses to them (R54). -/
def idPing : Byte := 0x01
/-- `START_STREAM` (R51). -/
def idStartStream : Byte := 0x02
/-- `STOP_STREAM` (R51). -/
def idStopStream : Byte := 0x03
/-- The stream identifier `TELEMETRY` (R52). -/
def idTelemetry : Byte := 0x01
/-- The error code `UNKNOWN_CMD` (R53). -/
def idUnknownCmd : Byte := 0x01
/-- The error code `BAD_PAYLOAD` (R53). -/
def idBadPayload : Byte := 0x02

end Sys2Proof.Machine
end

