-- ==== Sys2Proof/Machine/CrcEngine.lean ====
section
/-! DEFINITION. The CRC-32 generator as functions (spec/40_crc32.md): the table, one byte, a byte
string, a sequence of chunks. -/

namespace Sys2Proof.Machine

/-- One step of the table's loop (R65): shift right, and xor the polynomial when bit 0 was 1. -/
def crcShift (c : Word32) : Word32 :=
  if c.getLsbD 0 then (c >>> 1) ^^^ crcPolyRev else c >>> 1

/-- `n` steps of the loop. -/
def crcShifts : Nat → Word32 → Word32
  | 0, c => c
  | n + 1, c => crcShifts n (crcShift c)

/-- `CRC.TBL[i]` (R65), a constant function of the index (R71). -/
def crcTbl (i : Byte) : Word32 := crcShifts 8 (i.zeroExtend 32)

/-- `CRC.UPDATE` on an accumulator (R67): `index = (ACC ^ byte) & 0xFF`, then
`(ACC >> 8) ^ TBL[index]`. -/
def crcUpdate (acc : Word32) (byte : Byte) : Word32 :=
  (acc >>> 8) ^^^ crcTbl (acc.truncate 8 ^^^ byte)

/-- `CRC.UPDATE` for each byte of one chunk, in order (R69). -/
def crcRun (acc : Word32) (chunk : Bytes) : Word32 := chunk.foldl crcUpdate acc

/-- Every chunk in order (R69). -/
def crcRunChunks (acc : Word32) (chunks : List Bytes) : Word32 := chunks.foldl crcRun acc

/-- `CRC.FINAL` on an accumulator (R68). -/
def crcFinish (acc : Word32) : Word32 := acc ^^^ crcXorOut

/-- `CRC.CHECKSUM(chunks)` (R69). -/
def crcChecksum (chunks : List Bytes) : Word32 := crcFinish (crcRunChunks crcInitValue chunks)

/-- The bit-serial form of one byte (R74): xor the byte in once, then eight loop steps. -/
def crcBitSerial (acc : Word32) (byte : Byte) : Word32 :=
  crcShifts 8 (acc ^^^ byte.zeroExtend 32)

end Sys2Proof.Machine
end

