-- ==== Sys2Proof/Machine/Flags.lean ====
section
/-! DEFINITION. The conditions the operations test: payload bounds, validity of a Frame, the receive
address check, the transforms the environment may pick, the gate of the stream emission, and the
codes and classes of the error results. The block has no condition codes; its only flag is
`DEV.STREAMING` (R16). -/

namespace Sys2Proof.Machine

/-- `46 <= len(payload) <= 1500` (R77, R81, R84). -/
def payloadInBounds (payload : Bytes) : Bool :=
  decide (payloadMin ≤ payload.length ∧ payload.length ≤ payloadMax)

/-- `FRAME_CRC(dst, src, type, payload)` (R75). -/
def frameCrc (dst src : Address) (typeTag : Word16) (payload : Bytes) : Word32 :=
  crcChecksum [addrBytes dst, addrBytes src, be16 typeTag, payload]

/-- A Frame is valid when its checksum is the one of its other four fields (R76, R80). -/
def frameValid (f : Frame) : Bool :=
  f.checksum == frameCrc f.destination f.source f.typeTag f.payload

/-- A role's own address (R103). -/
def localAddr (cfg : Cfg) (role : Role) : Address :=
  match role with
  | .host => cfg.hostAddr
  | .device => cfg.deviceAddr

/-- The other role's address (R103). -/
def peerAddr (cfg : Cfg) (role : Role) : Address :=
  match role with
  | .host => cfg.deviceAddr
  | .device => cfg.hostAddr

/-- `ADDR_OK(role, f)` (R103). -/
def addrOk (cfg : Cfg) (role : Role) (f : Frame) : Bool :=
  match cfg.addrFilter with
  | .dstOnly => f.destination == localAddr cfg role
  | .dstAndSrc => f.destination == localAddr cfg role && f.source == peerAddr cfg role
  | .off => true

/-- The masks that flip a single bit of a byte. -/
def bitMasks : List Byte := [0x01, 0x02, 0x04, 0x08, 0x10, 0x20, 0x40, 0x80]

/-- Whether a class of transforms holds `t` for a Frame `w` (R9, R104). -/
def classHolds (c : TransformClass) (t : Transform) (w : Bytes) : Bool :=
  match c, t with
  | .identity, .identity => true
  | .identity, .xorByte _ _ => false
  | .identity, .replace _ => false
  | .singleByte, .identity => false
  | .singleByte, .xorByte k mask => decide (k < w.length ∧ mask ≠ 0)
  | .singleByte, .replace _ => false
  | .singleBit, .identity => false
  | .singleBit, .xorByte k mask => decide (k < w.length ∧ mask ∈ bitMasks)
  | .singleBit, .replace _ => false
  | .every, _ => true
  | .other n, t => Config.corruptOther n w (applyTransform t w)

/-- Whether the parameter `CORRUPT` holds a transform for a Frame `w` (R9, R104). -/
def corruptAllows (set : CorruptSet) (t : Transform) (w : Bytes) : Bool :=
  set.any fun c => classHolds c t w

/-- The gate of the stream emission (R107): `DEV.STREAMING` after the command, or its value `s0` at
the start of the cycle. -/
def streamGate (phase : StreamPhase) (s0 now : Bool) : Bool :=
  match phase with
  | .postCmd => now
  | .preCmd => s0

/-- The numeric code the result port carries in `Err(code)` (R120). -/
def errorCode : BlockError → Nat
  | .frameTooShort _ => 1
  | .frameTooLong _ => 2
  | .checksumMismatch => 3
  | .payloadOutOfBounds _ => 4
  | .dataTooLarge _ => 5
  | .msgTooShort _ => 6
  | .lengthExceedsBuffer _ _ => 7
  | .protocolViolation _ => 8

/-- The class of an error (R120, R121). -/
def errorClass : BlockError → ErrorClass
  | .frameTooShort _ => .sizeViolation
  | .frameTooLong _ => .sizeViolation
  | .checksumMismatch => .checksumMismatch
  | .payloadOutOfBounds _ => .sizeViolation
  | .dataTooLarge _ => .sizeViolation
  | .msgTooShort _ => .truncatedBuffer
  | .lengthExceedsBuffer _ _ => .truncatedBuffer
  | .protocolViolation _ => .protocolViolation

end Sys2Proof.Machine
end

