-- ==== Sys2Proof/Machine/Ops.lean ====
section
/-! DEFINITION. The named operations every meaning is built from: driving the output ports,
reporting an error (the block's "trap entry", R127; there is no return from one, R129), the two
codecs, the link adapter with the wire channels, the Device's handlers and stream emission, the
Host's classification, reset, and the fetch of the next request. -/

namespace Sys2Proof.Machine

/-- The operation ends with `Ok(v)` and drives no host event (R20). -/
def State.reportOk (v : Value) (s : State) : State :=
  { s with out := some (.ok v), event := none }

/-- The operation ends with `Err(e)` (R127): the result port carries the error, no host event is
driven, nothing is saved or latched. -/
def State.reportError (e : BlockError) (s : State) : State :=
  { s with out := some (.err e), event := none }

/-- A Host poll ends with `Ok`: nothing, or one event, also on the host event port (R20, R116). -/
def State.reportEvent (e : Option HostEvent) (s : State) : State :=
  { s with out := some (.ok (.event e)), event := e }

/-- Report what a pure operation gives (R127 a). -/
def State.report {α : Type} (value : α → Value) (r : Except BlockError α) (s : State) : State :=
  match r with
  | .ok a => s.reportOk (value a)
  | .error e => s.reportError e

/-! ### The frame codec (spec/41_frame_codec.md) -/

/-- `FRAME.NEW` (R77). -/
def frameNew (dst src : Address) (typeTag : Word16) (payload : Bytes) : Except BlockError Frame :=
  if payloadInBounds payload then
    .ok { destination := dst, source := src, typeTag := typeTag, payload := payload,
          checksum := frameCrc dst src typeTag payload }
  else .error (.payloadOutOfBounds payload.length)

/-- `FRAME.ENCODE` (R78): the stored checksum is emitted as it is. -/
def frameEncode (f : Frame) : Bytes :=
  addrBytes f.destination ++ addrBytes f.source ++ be16 f.typeTag ++ f.payload ++ le32 f.checksum

/-- The five fields of an encoded Frame at the offsets of R35. -/
def frameFields (w : Bytes) : Frame where
  destination := addrAt w 0
  source := addrAt w 6
  typeTag := be16At w 12
  payload := slice w 14 (w.length - 4)
  checksum := le32At w (w.length - 4)

/-- `FRAME.DECODE` (R79), the checks in that order. -/
def frameDecode (w : Bytes) : Except BlockError Frame :=
  if w.length < frameMin then .error (.frameTooShort w.length)
  else if frameMax < w.length then .error (.frameTooLong w.length)
  else if frameValid (frameFields w) then .ok (frameFields w)
  else .error .checksumMismatch

/-- The four fields a checksum covers are replaced and the checksum is recomputed, after the bound
check on the payload the Frame holds (R81 to R83). -/
def frameRecompute (f : Frame) (dst src : Address) (typeTag : Word16) : Except BlockError Frame :=
  frameNew dst src typeTag f.payload

/-- `FRAME.SET_PAYLOAD` (R84): the bound is enforced whatever `suppress` is. -/
def frameSetPayload (f : Frame) (payload : Bytes) (suppress : Bool) : Except BlockError Frame :=
  if payloadInBounds payload then
    .ok { f with
          payload := payload
          checksum := if suppress then f.checksum
            else frameCrc f.destination f.source f.typeTag payload }
  else .error (.payloadOutOfBounds payload.length)

/-! ### The message codec (spec/42_message_codec.md) -/

/-- `MSG.PACK` (R91) with the padding of R92. -/
def msgPack (order : LenOrder) (kind identifier : Byte) (data : Bytes) : Except BlockError Bytes :=
  if msgDataMax < data.length then .error (.dataTooLarge data.length)
  else .ok ([kind, identifier] ++ len16 order (BitVec.ofNat 16 data.length)
    ++ zeros (msgMinLen - msgHdrLen - data.length) ++ data)

/-- `MSG.UNPACK` (R93): the data is the LAST `length` bytes of the buffer. -/
def msgUnpack (order : LenOrder) (p : Bytes) : Except BlockError Message :=
  if p.length < msgHdrLen then .error (.msgTooShort p.length)
  else
    let field := len16At order p 2
    if p.length - msgHdrLen < field.toNat then .error (.lengthExceedsBuffer field.toNat p.length)
    else .ok { kind := byteAt p 0, identifier := byteAt p 1, length := field,
               data := slice p (p.length - field.toNat) p.length }

/-! ### The link adapter (spec/43_dispatch_router.md section 1) -/

/-- The channel a role receives from (R102). -/
def State.incoming (s : State) (role : Role) : List Bytes :=
  match role with
  | .device => s.h2d
  | .host => s.d2h

/-- The channel a role receives from, replaced. -/
def State.setIncoming (role : Role) (q : List Bytes) (s : State) : State :=
  match role with
  | .device => { s with h2d := q }
  | .host => { s with d2h := q }

/-- Append one encoded Frame to the tail of the sender's outgoing channel (R101). -/
def State.transmit (role : Role) (w : Bytes) (s : State) : State :=
  match role with
  | .host => { s with h2d := s.h2d ++ [w] }
  | .device => { s with d2h := s.d2h ++ [w] }

/-- The Frame `LINK.TX` builds (R101): from the sender's own address to the peer's. -/
def linkFrame (cfg : Cfg) (role : Role) (m : Bytes) : Except BlockError Frame :=
  frameNew (peerAddr cfg role) (localAddr cfg role) cfg.linkType m

/-- `LINK.TX` (R101): on an error nothing is appended. -/
def linkTx (role : Role) (m : Bytes) (s : State) : Except BlockError State :=
  match linkFrame s.cfg role m with
  | .ok f => .ok (s.transmit role (frameEncode f))
  | .error e => .error e

/-- What a receive did: the environment's transform is not in `CORRUPT`, or the state after the
receive and its result (R102). -/
inductive Received
  | notAllowed
  | done (s : State) (r : Except BlockError (Option Bytes))

/-- What the receiver makes of the bytes of one Frame (R102, R103): an error, nothing (dropped by
the address filter), or the payload. -/
def linkAccept (cfg : Cfg) (role : Role) (w : Bytes) : Except BlockError (Option Bytes) :=
  match frameDecode w with
  | .error e => .error e
  | .ok f => .ok (if addrOk cfg role f then some f.payload else none)

/-- `LINK.RX` (R102): the head is removed on every path but the empty one (R39). -/
def linkRx (role : Role) (t : Transform) (s : State) : Received :=
  match s.incoming role with
  | [] => .done s (.ok none)
  | w :: rest =>
    if corruptAllows s.params.corrupt t w then
      .done (s.setIncoming role rest) (linkAccept s.cfg role (applyTransform t w))
    else .notAllowed

/-- Pack a Message and send it: the shape of every emission of a role (R108 to R112, R114). -/
def sendMessage (role : Role) (kind identifier : Byte) (data : Bytes) (s : State) :
    Except BlockError State :=
  match msgPack s.cfg.lenOrder kind identifier data with
  | .error e => .error e
  | .ok m => linkTx role m s

/-! ### The Device role (spec/43_dispatch_router.md section 3) -/

/-- Write `DEV.STREAMING` (R109, R110). -/
def State.setStreaming (b : Bool) (s : State) : State := { s with streaming := b }

/-- Increment `DEV.COUNTER` modulo 2^32 (R112). -/
def State.bumpCounter (s : State) : State := { s with counter := s.counter + 1 }

/-- The Device emits `RESPONSE(PING, "PONG")` (R108, R63). -/
def sendPong (s : State) : Except BlockError State :=
  sendMessage .device kindResponse idPing pongData s

/-- The Device emits `RESPONSE(START_STREAM, "OK")` (R109, R63). -/
def sendStartOk (s : State) : Except BlockError State :=
  sendMessage .device kindResponse idStartStream okData s

/-- The Device emits `RESPONSE(STOP_STREAM, "OK")` (R110, R63). -/
def sendStopOk (s : State) : Except BlockError State :=
  sendMessage .device kindResponse idStopStream okData s

/-- The Device emits `ERROR(UNKNOWN_CMD)` (R111, R63). -/
def sendUnknownCmd (s : State) : Except BlockError State :=
  sendMessage .device kindError idUnknownCmd [] s

/-- What the Device does with a Message: the handlers R108 to R111, the violation R113. -/
def devHandle (h : DevHeader) (s : State) : Except BlockError State :=
  match h with
  | .ping => sendPong s
  | .startStream => sendStartOk (s.setStreaming true)
  | .stopStream => sendStopOk (s.setStreaming false)
  | .unknownCommand _ => sendUnknownCmd s
  | .notCommand kind _ => .error (.protocolViolation kind)

/-- The stream emission (R112): the counter is sent, then incremented. -/
def emitTelemetry (s : State) : Except BlockError State :=
  match sendMessage .device kindStream idTelemetry (le32 s.counter) s with
  | .ok s' => .ok s'.bumpCounter
  | .error e => .error e

/-- The command part of a Device cycle (R107): unpack what was received, and dispatch it. -/
def devCommand (received : Option Bytes) (s : State) : Except BlockError State :=
  match received with
  | none => .ok s
  | some p =>
    match msgUnpack s.cfg.lenOrder p with
    | .error e => .error e
    | .ok m => devHandle (devHeader (headerWord m.kind m.identifier)) s

/-- The stream part of a Device cycle (R107); `s0` is `DEV.STREAMING` at the start of the cycle. -/
def devStream (s0 : Bool) (s : State) : Except BlockError State :=
  if streamGate s.cfg.streamPhase s0 s.streaming then emitTelemetry s else .ok s

/-- A Device cycle once `LINK.RX` has returned (R107). An error ends the cycle and leaves the state
as the receive left it (R127 b, c). -/
def devCycle (received : Except BlockError (Option Bytes)) (s : State) : State :=
  match received with
  | .error e => s.reportError e
  | .ok r =>
    match devCommand r s with
    | .error e => s.reportError e
    | .ok s1 =>
      match devStream s.streaming s1 with
      | .error e => s.reportError e
      | .ok s2 => s2.reportOk .none

/-- One handler run on its own (log 5): its state on success, else the error alone. -/
def runHandler (h : DevHeader) (s : State) : State :=
  match devHandle h s with
  | .ok s' => s'.reportOk .none
  | .error e => s.reportError e

/-- One emission, as a result (log 6): the state it gives on success, else the error alone. -/
def runEmission (r : Except BlockError State) (s : State) : State :=
  match r with
  | .ok s' => s'.reportOk .none
  | .error e => s.reportError e

/-! ### The Host role (spec/43_dispatch_router.md section 4) -/

/-- What the Host does with a Message (R115, R117): one event, or the violation. -/
def hostHandle (h : HostHeader) (data : Bytes) (s : State) : State :=
  match h with
  | .response id => s.reportEvent (some ⟨.response, id, data⟩)
  | .stream id => s.reportEvent (some ⟨.stream, id, data⟩)
  | .error id => s.reportEvent (some ⟨.error, id, data⟩)
  | .reject kind _ => s.reportError (.protocolViolation kind)

/-- A Host poll once `LINK.RX` has returned (R115). -/
def hostCycle (received : Except BlockError (Option Bytes)) (s : State) : State :=
  match received with
  | .error e => s.reportError e
  | .ok none => s.reportEvent none
  | .ok (some p) =>
    match msgUnpack s.cfg.lenOrder p with
    | .error e => s.reportError e
    | .ok m => hostHandle (hostHeader (headerWord m.kind m.identifier)) m.data s

/-! ### The CRC register, reset, and the command port -/

/-- Write `CRC.ACC`, which from then on has a defined value (R66, R67). -/
def State.setAcc (v : Word32) (s : State) : State := { s with acc := v, accReady := true }

/-- `RESET` (R140): every piece of state at its reset value; the parameters and the requests still
waiting at the command port are the environment's and stay (log 19). -/
def resetBlock (s : State) : State := { State.resetUnder s.params with pending := s.pending }

/-- The name a rejected request is refused under. -/
def refusalOf : DecodeRefusal → Refusal
  | .unlistedOp code => .unlistedOp code
  | .unnamedTag w => .unnamedTag w

/-- What stands at the command port (log 2): nothing, with the ports then driving nothing; an
operation to run in the state that has consumed its request; or a request that selects no row. -/
inductive Fetched
  | idle (s : State)
  | run (i : Instr) (s : State)
  | reject (r : Refusal)

/-- Take the first waiting request and decode it. -/
def fetchRequest (s : State) : Fetched :=
  match s.pending with
  | [] => .idle { s with out := none, event := none }
  | r :: rest =>
    match decode s.params r with
    | .ok i => .run i { s with pending := rest }
    | .error e => .reject (refusalOf e)

/-- Put a request in front of those waiting at the command port. -/
def State.present (r : Request) (s : State) : State := { s with pending := r :: s.pending }

end Sys2Proof.Machine
end

