-- ==== Sys2Proof/Machine/CodePoints.lean ====
section
/-! DEFINITION. The meanings of the two informative groups of the opcode table (R64), on which no
router dispatches (R47, R57). A named Message is what the Device's handlers and its stream emission
send inside `DEV.POLL`; its meaning is that emission, which no request selects (log 6). A named type
tag is a number (log 7). -/

namespace Sys2Proof.Machine

/-- `RESPONSE.PING`: emitted as in R108, data of R63. -/
def execResponsePing (s : State) : Outcome :=
  .next (runEmission (sendPong s) s)

/-- `RESPONSE.START_STREAM`: emitted as in R109, data of R63; `DEV.STREAMING` is the command's. -/
def execResponseStartStream (s : State) : Outcome :=
  .next (runEmission (sendStartOk s) s)

/-- `RESPONSE.STOP_STREAM`: emitted as in R110, data of R63; `DEV.STREAMING` is the command's. -/
def execResponseStopStream (s : State) : Outcome :=
  .next (runEmission (sendStopOk s) s)

/-- `STREAM.TELEMETRY`: emitted as in R112, which also increments the counter. -/
def execStreamTelemetry (s : State) : Outcome := .next (runEmission (emitTelemetry s) s)

/-- `ERROR.UNKNOWN_CMD`: emitted as in R111, no data (R63). -/
def execErrorUnknownCmd (s : State) : Outcome :=
  .next (runEmission (sendUnknownCmd s) s)

/-- `ERROR.BAD_PAYLOAD`: the Device never emits it (R53); at the Host it is an `ERROR` event like any
other (93_implementation_defined.md U11). -/
def execErrorBadPayload (data : Bytes) (s : State) : Outcome :=
  .next (hostHandle (.error idBadPayload) data s)

/-- `TYPE.IPV4`: the number of that name (R47); nothing else happens. -/
def execTypeIpv4 (s : State) : Outcome := .next (s.reportOk (.tag s.params.typeIpv4))

/-- `TYPE.IPV6`: the number of that name (R47); nothing else happens. -/
def execTypeIpv6 (s : State) : Outcome := .next (s.reportOk (.tag s.params.typeIpv6))

/-- `TYPE.ARP`: the number of that name (R47); nothing else happens. -/
def execTypeArp (s : State) : Outcome := .next (s.reportOk (.tag s.params.typeArp))

end Sys2Proof.Machine
end

