-- ==== Sys2Proof/Machine/CrcUnit.lean ====
section
/-! DEFINITION. The meanings of the CRC operations (spec/40_crc32.md section 2). -/

namespace Sys2Proof.Machine

/-- `CRC.INIT` (R66). -/
def execCrcInit (s : State) : Outcome := .next ((s.setAcc crcInitValue).reportOk .none)

/-- `CRC.UPDATE(byte)` (R67); refused before any `CRC.INIT` since reset (U7). -/
def execCrcUpdate (byte : Byte) (s : State) : Outcome :=
  if s.accReady then .next ((s.setAcc (crcUpdate s.acc byte)).reportOk .none)
  else .refused .crcBeforeInit

/-- `CRC.FINAL` (R68): `CRC.ACC` is not changed; refused before any `CRC.INIT` since reset (U7). -/
def execCrcFinal (s : State) : Outcome :=
  if s.accReady then .next (s.reportOk (.word (crcFinish s.acc)))
  else .refused .crcBeforeInit

/-- `CRC.CHECKSUM(chunks)` (R69): `CRC.INIT`, an update for each byte, `CRC.FINAL`, all on the
register `CRC.ACC` as the pseudocode writes it (log 12). -/
def execCrcChecksum (chunks : List Bytes) (s : State) : Outcome :=
  .next ((s.setAcc (crcRunChunks crcInitValue chunks)).reportOk (.word (crcChecksum chunks)))

end Sys2Proof.Machine
end

