-- ==== Sys2Proof/Machine/DeviceRole.lean ====
section
/-! DEFINITION. The meanings of the Device's poll and of the Device's rows of the dispatch router
(spec/43_dispatch_router.md section 3). A row's meaning is what its rule does with one Message, on
its own (log 5): no receive before it and no stream emission after it, which are `DEV.POLL`'s. -/

namespace Sys2Proof.Machine

/-- `DEV.POLL` (R107). -/
def execDevPoll (t : Transform) (s : State) : Outcome :=
  match linkRx .device t s with
  | .notAllowed => .refused .transformNotAllowed
  | .done s' r => .next (devCycle r s')

/-- `CMD.PING` (R108); the command's data is ignored. -/
def execCmdPing (_data : Bytes) (s : State) : Outcome := .next (runHandler .ping s)

/-- `CMD.START_STREAM` (R109). -/
def execCmdStartStream (_data : Bytes) (s : State) : Outcome := .next (runHandler .startStream s)

/-- `CMD.STOP_STREAM` (R110). -/
def execCmdStopStream (_data : Bytes) (s : State) : Outcome := .next (runHandler .stopStream s)

/-- `CMD.UNKNOWN` (R111): the `UnknownIdentifier` condition, never an error result (R122). -/
def execCmdUnknown (id : Byte) (_data : Bytes) (s : State) : Outcome :=
  .next (runHandler (.unknownCommand id) s)

/-- `DEV.NOT_COMMAND` (R113): `ProtocolViolation`, nothing emitted. -/
def execDevNotCommand (kind identifier : Byte) (_data : Bytes) (s : State) : Outcome :=
  .next (runHandler (.notCommand kind identifier) s)

end Sys2Proof.Machine
end

