-- ==== Sys2Proof/Machine/FrameUnit.lean ====
section
/-! DEFINITION. The meanings of the frame operations (spec/41_frame_codec.md). They are pure: only
the output ports change (R10, R127 a). -/

namespace Sys2Proof.Machine

/-- `FRAME.NEW` (R77). -/
def execFrameNew (dst src : Address) (typeTag : Word16) (payload : Bytes) (s : State) : Outcome :=
  .next (s.report .frame (frameNew dst src typeTag payload))

/-- `FRAME.ENCODE` (R78). -/
def execFrameEncode (f : Frame) (s : State) : Outcome := .next (s.reportOk (.bytes (frameEncode f)))

/-- `FRAME.DECODE` (R79). -/
def execFrameDecode (w : Bytes) (s : State) : Outcome := .next (s.report .frame (frameDecode w))

/-- `FRAME.IS_VALID` (R80). -/
def execFrameIsValid (f : Frame) (s : State) : Outcome := .next (s.reportOk (.bit (frameValid f)))

/-- `FRAME.SET_DST` (R81). -/
def execFrameSetDst (f : Frame) (dst : Address) (s : State) : Outcome :=
  .next (s.report .frame (frameRecompute f dst f.source f.typeTag))

/-- `FRAME.SET_SRC` (R82). -/
def execFrameSetSrc (f : Frame) (src : Address) (s : State) : Outcome :=
  .next (s.report .frame (frameRecompute f f.destination src f.typeTag))

/-- `FRAME.SET_TYPE` (R83). -/
def execFrameSetType (f : Frame) (typeTag : Word16) (s : State) : Outcome :=
  .next (s.report .frame (frameRecompute f f.destination f.source typeTag))

/-- `FRAME.SET_PAYLOAD` (R84). -/
def execFrameSetPayload (f : Frame) (payload : Bytes) (suppress : Bool) (s : State) : Outcome :=
  .next (s.report .frame (frameSetPayload f payload suppress))

end Sys2Proof.Machine
end

