-- ==== Sys2Proof/Machine/HostRole.lean ====
section
/-! DEFINITION. The meanings of the Host's operations and of the Host's rows of the dispatch router
(spec/43_dispatch_router.md section 4). -/

namespace Sys2Proof.Machine

/-- `HOST.SEND_COMMAND` (R114): the identifier is not checked. -/
def execHostSendCommand (id : Byte) (data : Bytes) (s : State) : Outcome :=
  .next (runEmission (sendMessage .host kindCommand id data s) s)

/-- `HOST.POLL` (R115). -/
def execHostPoll (t : Transform) (s : State) : Outcome :=
  match linkRx .host t s with
  | .notAllowed => .refused .transformNotAllowed
  | .done s' r => .next (hostCycle r s')

/-- `EVT.RESPONSE` (R115): the identifier passes unchecked (R57). -/
def execEvtResponse (identifier : Byte) (data : Bytes) (s : State) : Outcome :=
  .next (hostHandle (.response identifier) data s)

/-- `EVT.STREAM` (R115). -/
def execEvtStream (identifier : Byte) (data : Bytes) (s : State) : Outcome :=
  .next (hostHandle (.stream identifier) data s)

/-- `EVT.ERROR` (R115): an `ERROR` Message is not an error of the poll. -/
def execEvtError (identifier : Byte) (data : Bytes) (s : State) : Outcome :=
  .next (hostHandle (.error identifier) data s)

/-- `HOST.REJECT` (R117): `ProtocolViolation`, no event. -/
def execHostReject (kind identifier : Byte) (data : Bytes) (s : State) : Outcome :=
  .next (hostHandle (.reject kind identifier) data s)

end Sys2Proof.Machine
end

