-- ==== Sys2Proof/Machine/LinkAdapter.lean ====
section
/-! DEFINITION. The meanings of the link adapter's operations (spec/43_dispatch_router.md
section 1). -/

namespace Sys2Proof.Machine

/-- `LINK.TX` (R101). -/
def execLinkTx (role : Role) (m : Bytes) (s : State) : Outcome :=
  .next (runEmission (linkTx role m s) s)

/-- `LINK.RX` (R102). -/
def execLinkRx (role : Role) (t : Transform) (s : State) : Outcome :=
  match linkRx role t s with
  | .notAllowed => .refused .transformNotAllowed
  | .done s' r => .next (s'.report .received r)

end Sys2Proof.Machine
end

