-- ==== Sys2Proof/Machine/MsgUnit.lean ====
section
/-! DEFINITION. The meanings of the message operations (spec/42_message_codec.md). They are pure:
only the output ports change; the byte order is that of `CFG.LEN_ORDER` (R19). -/

namespace Sys2Proof.Machine

/-- `MSG.PACK` (R91). -/
def execMsgPack (kind identifier : Byte) (data : Bytes) (s : State) : Outcome :=
  .next (s.report .bytes (msgPack s.cfg.lenOrder kind identifier data))

/-- `MSG.UNPACK` (R93). -/
def execMsgUnpack (p : Bytes) (s : State) : Outcome :=
  .next (s.report .message (msgUnpack s.cfg.lenOrder p))

end Sys2Proof.Machine
end

