-- ==== Sys2Proof/Machine/System.lean ====
section
/-! DEFINITION. The meaning of `RESET` (spec/70_reset_and_hazards.md R140). -/

namespace Sys2Proof.Machine

/-- `RESET` (R140): raises nothing, result `Ok`. -/
def execReset (s : State) : Outcome := .next ((resetBlock s).reportOk .none)

end Sys2Proof.Machine
end

