-- ==== Sys2Proof/Machine/Dispatch.lean ====
section
/-! DEFINITION. The dispatch: one arm for each constructor of Instr. -/

namespace Sys2Proof.Machine

def exec (i : Instr) (s : State) : Host.Outcome State Fault Refusal :=
  match i with
  | .reset => Sys2Proof.Machine.execReset s
  | .crcInit => Sys2Proof.Machine.execCrcInit s
  | .crcUpdate byte => Sys2Proof.Machine.execCrcUpdate byte s
  | .crcFinal => Sys2Proof.Machine.execCrcFinal s
  | .crcChecksum chunks => Sys2Proof.Machine.execCrcChecksum chunks s
  | .frameNew dst src typeTag payload => Sys2Proof.Machine.execFrameNew dst src typeTag payload s
  | .frameEncode f => Sys2Proof.Machine.execFrameEncode f s
  | .frameDecode w => Sys2Proof.Machine.execFrameDecode w s
  | .frameIsValid f => Sys2Proof.Machine.execFrameIsValid f s
  | .frameSetDst f dst => Sys2Proof.Machine.execFrameSetDst f dst s
  | .frameSetSrc f src => Sys2Proof.Machine.execFrameSetSrc f src s
  | .frameSetType f typeTag => Sys2Proof.Machine.execFrameSetType f typeTag s
  | .frameSetPayload f payload suppress => Sys2Proof.Machine.execFrameSetPayload f payload suppress s
  | .msgPack kind identifier data => Sys2Proof.Machine.execMsgPack kind identifier data s
  | .msgUnpack p => Sys2Proof.Machine.execMsgUnpack p s
  | .linkTx role m => Sys2Proof.Machine.execLinkTx role m s
  | .linkRx role t => Sys2Proof.Machine.execLinkRx role t s
  | .devPoll t => Sys2Proof.Machine.execDevPoll t s
  | .hostSendCommand id data => Sys2Proof.Machine.execHostSendCommand id data s
  | .hostPoll t => Sys2Proof.Machine.execHostPoll t s
  | .cmdPing data => Sys2Proof.Machine.execCmdPing data s
  | .cmdStartStream data => Sys2Proof.Machine.execCmdStartStream data s
  | .cmdStopStream data => Sys2Proof.Machine.execCmdStopStream data s
  | .cmdUnknown id data => Sys2Proof.Machine.execCmdUnknown id data s
  | .devNotCommand kind identifier data => Sys2Proof.Machine.execDevNotCommand kind identifier data s
  | .evtResponse identifier data => Sys2Proof.Machine.execEvtResponse identifier data s
  | .evtStream identifier data => Sys2Proof.Machine.execEvtStream identifier data s
  | .evtError identifier data => Sys2Proof.Machine.execEvtError identifier data s
  | .hostReject kind identifier data => Sys2Proof.Machine.execHostReject kind identifier data s
  | .responsePing => Sys2Proof.Machine.execResponsePing s
  | .responseStartStream => Sys2Proof.Machine.execResponseStartStream s
  | .responseStopStream => Sys2Proof.Machine.execResponseStopStream s
  | .streamTelemetry => Sys2Proof.Machine.execStreamTelemetry s
  | .errorUnknownCmd => Sys2Proof.Machine.execErrorUnknownCmd s
  | .errorBadPayload data => Sys2Proof.Machine.execErrorBadPayload data s
  | .typeIpv4 => Sys2Proof.Machine.execTypeIpv4 s
  | .typeIpv6 => Sys2Proof.Machine.execTypeIpv6 s
  | .typeArp => Sys2Proof.Machine.execTypeArp s

end Sys2Proof.Machine
end

