-- ==== Sys2Proof/Machine/Step.lean ====
section
/-! DEFINITION. One step of the block: the environment's next invocation, as one atomic transition
(spec/10_state.md R14, spec/20_memory.md R34). -/

namespace Sys2Proof.Machine

/-- Run the first request at the command port. With none waiting nothing happens (R141): the ports
drive nothing and all else stays. A request that selects no row is refused by name (R61). -/
def step (s : State) : Host.Outcome State Fault Refusal :=
  match fetchRequest s with
  | .idle s' => .next s'
  | .run i s' => exec i s'
  | .reject r => .refused r

/-- The state with the bare table word as the environment's next invocation (log 2, log 8). -/
def State.withFetchWord (s : State) (nbits w : Nat) : State := s.present (tableRequest nbits w)

end Sys2Proof.Machine
end

