-- ==== Sys2Proof/Safety.lean ====
section
/-! DEFINITION. What counts as a good state, and the words claims are stated in: a run of several
operations, the bytes of a Message on the wire, the Frames a channel may hold. -/

namespace Sys2Proof

open Machine

/-- The state with the result port driving `r` and no host event (R20). -/
def drives (s : State) (r : Result) : State := { s with out := some r, event := none }

/-- The state with the result port driving what a Host poll gives, and the same event on the host
event port (R20, R116). -/
def drivesEvent (s : State) (e : Option HostEvent) : State :=
  { s with out := some (.ok (.event e)), event := e }

/-- The other role (R133). -/
def otherRole : Role → Role
  | .host => .device
  | .device => .host

/-- The frame and message operations, which the spec calls pure (R10, R42). -/
def IsCodecOperation : Instr → Prop
  | .frameNew _ _ _ _ | .frameEncode _ | .frameDecode _ | .frameIsValid _ | .frameSetDst _ _
  | .frameSetSrc _ _ | .frameSetType _ _ | .frameSetPayload _ _ _ | .msgPack _ _ _
  | .msgUnpack _ => True
  | _ => False

/-- The operations the Host may invoke (R133). -/
def IsHostOperation : Instr → Prop
  | .hostSendCommand _ _ | .hostPoll _ => True
  | _ => False

/-- The rows of the informative group `MSG_NAME`, on which "a model must not dispatch" (R64). -/
def IsNamedMessage : Instr → Prop
  | .responsePing | .responseStartStream | .responseStopStream | .streamTelemetry
  | .errorUnknownCmd | .errorBadPayload _ => True
  | _ => False

/-- The operations that may put a Frame on the Device-to-Host channel, all of them the Device's
(R37: one writer for each direction). -/
def DeviceSends : Instr → Prop
  | .linkTx .device _ | .devPoll _ | .cmdPing _ | .cmdStartStream _ | .cmdStopStream _
  | .cmdUnknown _ _ | .responsePing | .responseStartStream | .responseStopStream | .streamTelemetry
  | .errorUnknownCmd => True
  | _ => False

/-- No transform of the fault-testing set takes this form on a Frame `w` (R104). -/
def OutsideFaultTesting (t : Transform) (w : Bytes) : Prop :=
  match t with
  | .identity => False
  | .xorByte k mask => w.length ≤ k ∨ mask = 0
  | .replace _ => True

/-- Several operations in order, each atomic (R34), stopping at the first that stops. -/
def execAll : List Instr → State → Outcome
  | [], s => .next s
  | i :: is, s =>
    match exec i s with
    | .next t => execAll is t
    | .fault r => .fault r
    | .refused r => .refused r

/-- A packed Message by its layout (R48), for data that fits (R91). -/
def packedMessage (order : LenOrder) (kind identifier : Byte) (data : Bytes) : Bytes :=
  [kind, identifier] ++ len16 order (BitVec.ofNat 16 data.length) ++ zeros (42 - data.length) ++ data

/-- The encoded Frame in which a role carries `m` to its peer (R101). -/
def carriedFrame (cfg : Cfg) (role : Role) (m : Bytes) : Bytes :=
  frameEncode ⟨peerAddr cfg role, localAddr cfg role, cfg.linkType, m,
    frameCrc (peerAddr cfg role) (localAddr cfg role) cfg.linkType m⟩

/-- The encoded Frame in which a role sends a Message to its peer (R101, R91). -/
def sentFrame (cfg : Cfg) (role : Role) (kind identifier : Byte) (data : Bytes) : Bytes :=
  carriedFrame cfg role (packedMessage cfg.lenOrder kind identifier data)

/-- The telemetry Message the Device would send next, as an encoded Frame (R112). -/
def telemetryFrame (s : State) : Bytes := sentFrame s.cfg .device 0x03 0x01 (le32 s.counter)

/-- A byte string that can stand in a channel: it decodes as a Frame, so it has 64 to 1518 bytes and
its checksum holds (R30, R36, R79). -/
def FrameOnWire (w : Bytes) : Prop := ∃ f : Frame, frameDecode w = .ok f

/-- What the result port can carry: every Frame has a payload of 46 to 1500 bytes (R76), every
Message as many data bytes as its length says (R90), every received payload 46 to 1500 bytes. -/
def OutputFits : Option Result → Prop
  | some (.ok (.frame f)) => f.WellFormed
  | some (.ok (.message m)) => m.length.toNat = m.data.length
  | some (.ok (.received (some payload))) =>
    payloadMin ≤ payload.length ∧ payload.length ≤ payloadMax
  | _ => True

/-- The configuration registers hold the parameters (R19: fixed, loaded at reset only). -/
def ConfigLoaded (s : State) : Prop := s.cfg = Cfg.ofParams s.params

/-- The block's invariant: the configuration is the parameters, both channels hold only Frames that
decode, and the result port is well formed. -/
def GoodState (s : State) : Prop :=
  ConfigLoaded s ∧ (∀ w ∈ s.h2d, FrameOnWire w) ∧ (∀ w ∈ s.d2h, FrameOnWire w) ∧ OutputFits s.out

end Sys2Proof
end

