-- ==== Sys2Proof/Certificates/Slice0/Obligations.lean ====
section
/-! DEFINITION. The statements for the provers. Each says what an operation or the whole block does,
from the numbered rules of spec/; `drives s r` is s with the result port driving r. -/

open Sys2Proof Sys2Proof.Machine

/-! ### Reset and the command port -/

/-- 10_state.md section 10, 70_reset_and_hazards.md section 1 (decisions D12, D13, D18): what reset
leaves, under any parameters; and the defaults of 00_scope.md section 3, `LINK_TYPE` following
`TYPE_IPV4`. Nothing is said of the
model's own choices (the value of `CRC.ACC`, log 11, and the two addresses, log 9). -/
def Obligations.ResetLeavesSpecValues : Prop :=
  (∀ p : Params,
    (State.resetUnder p).streaming = false ∧ (State.resetUnder p).counter = p.counterReset ∧
    (State.resetUnder p).accReady = false ∧
    (State.resetUnder p).h2d = [] ∧ (State.resetUnder p).d2h = [] ∧
    (State.resetUnder p).cfg = ⟨p.hostAddr, p.deviceAddr, p.linkType, p.lenOrder, p.addrFilter,
      p.streamPhase⟩ ∧
    (State.resetUnder p).params = p ∧ (State.resetUnder p).pending = [] ∧
    (State.resetUnder p).out = none ∧ (State.resetUnder p).event = none) ∧
  (State.reset = State.resetUnder State.reset.params ∧
    State.reset.counter = 0x00000000 ∧ State.reset.cfg.lenOrder = .le ∧
    State.reset.cfg.linkType = 0x0800 ∧ State.reset.cfg.addrFilter = .dstOnly ∧
    State.reset.cfg.streamPhase = .postCmd ∧ State.reset.params.corrupt = [.identity] ∧
    State.reset.params.typeIpv4 = 0x0800 ∧ State.reset.params.typeIpv6 = 0x86DD ∧
    State.reset.params.typeArp = 0x0806) ∧
  (∀ (host device : Address) (ipv4 : Word16),
    ({ hostAddr := host, deviceAddr := device, typeIpv4 := ipv4 } : Params).linkType = ipv4)

/-- 70_reset_and_hazards.md section 1: `RESET` of any state; `CRC.ACC` is left unspecified. The
parameters and the requests still waiting are the environment's and stay (log 19). -/
def Obligations.ResetOperationRestoresReset : Prop :=
  ∀ s : State, ∃ a : Word32, exec .reset s = .next
    { streaming := false, counter := s.params.counterReset,
      cfg := ⟨s.params.hostAddr, s.params.deviceAddr, s.params.linkType, s.params.lenOrder,
        s.params.addrFilter, s.params.streamPhase⟩,
      acc := a, accReady := false, h2d := [], d2h := [], params := s.params,
      pending := s.pending, out := some (.ok .none), event := none }

/-- A step runs the decoded operation: exec of it in the state that has consumed its request. With
no request nothing happens but that the ports drive nothing; a request that selects no row is
refused by name (log 2). -/
def Obligations.StepRunsDecodedOperation : Prop :=
  ∀ s : State,
    (s.pending = [] → step s = .next { s with out := none, event := none }) ∧
    (∀ r rest i, s.pending = r :: rest → decode s.params r = .ok i →
      step s = exec i { s with pending := rest }) ∧
    (∀ r rest e, s.pending = r :: rest → decode s.params r = .error e →
      step s = .refused (refusalOf e))

/-- 30_encoding.md section 5 (decision D16): a listed operation-select code selects an operation, an
unlisted one is refused. -/
def Obligations.UnlistedCodesAreRefused : Prop :=
  ∀ (s : State) (code : BitVec 5) (ports : Ports) (rest : List Request),
    s.pending = .op code ports :: rest →
    if code.toNat ∈ [0x00, 0x01, 0x02, 0x03, 0x04, 0x08, 0x09, 0x0A, 0x0B, 0x0C, 0x0D, 0x0E, 0x0F,
        0x10, 0x11, 0x14, 0x15, 0x18, 0x1C, 0x1D] then
      ∃ i, decode s.params (.op code ports) = .ok i ∧ step s = exec i { s with pending := rest }
    else step s = .refused (.unlistedOp code)

/-! ### Encoding -/

/-- Decode of encode is the instruction, for every well-formed instruction that a request can select,
every operand at every value; the three type tags need three different numbers. A named Message
(log 6) is encoded as the Host's router meets it, and decodes to the Host's row of its kind. -/
def Obligations.DecodeInvertsEncode : Prop :=
  (∀ (p : Params) (i : Instr), p.TagsDistinct → i.wellFormed = true → ¬IsNamedMessage i →
    decode p (encode p i) = .ok i) ∧
  (∀ (p : Params) (data : Bytes),
    decode p (encode p .responsePing) = .ok (.evtResponse 0x01 [0x50, 0x4F, 0x4E, 0x47]) ∧
    decode p (encode p .responseStartStream) = .ok (.evtResponse 0x02 [0x4F, 0x4B]) ∧
    decode p (encode p .responseStopStream) = .ok (.evtResponse 0x03 [0x4F, 0x4B]) ∧
    decode p (encode p .streamTelemetry) = .ok (.evtStream 0x01 []) ∧
    decode p (encode p .errorUnknownCmd) = .ok (.evtError 0x01 []) ∧
    decode p (encode p (.errorBadPayload data)) = .ok (.evtError 0x02 data))

/-- 30_encoding.md section 7 (decision D16): whatever the request and the parameters, the decoder
selects no row of the group of named Messages. -/
def Obligations.NamedMessagesAreNeverSelected : Prop :=
  ∀ (p : Params) (r : Request) (i : Instr), decode p r = .ok i → ¬IsNamedMessage i

/-- Some words written out from spec/30_encoding.md R50 to R54, R61 and R47. -/
def Obligations.TableWordsDecode : Prop :=
  decodeTableWord 8 0x01 = some .crcInit ∧ decodeTableWord 8 0x02 = some (.crcUpdate 0) ∧
  decodeTableWord 8 0x0A = some (.frameDecode []) ∧
  decodeTableWord 8 0x10 = some (.msgPack 0 0 []) ∧
  decodeTableWord 8 0x14 = some (.linkTx .host []) ∧
  decodeTableWord 8 0x18 = some (.devPoll .identity) ∧
  decodeTableWord 8 0x1D = some (.hostPoll .identity) ∧
  decodeTableWord 8 0x05 = none ∧ decodeTableWord 8 0x1F = none ∧
  decodeTableWord 16 0x0102 = some (.cmdStartStream []) ∧
  decodeTableWord 16 0x0199 = some (.cmdUnknown 0x99 []) ∧
  decodeTableWord 16 0x0400 = some (.evtError 0x00 []) ∧
  decodeTableWord 16 0x0201 = some (.evtResponse 0x01 []) ∧
  decodeTableWord 16 0x0806 = some .typeArp

/-- 30_encoding.md sections 3 and 7: what each role's router selects, by kind and, for a COMMAND at
the Device, by identifier; never a row of the two informative groups. -/
def Obligations.RoutersDispatchByKindAndCommand : Prop :=
  ∀ (kind id : Byte) (data : Bytes),
    decodeHeader .device (headerWord kind id) data =
      (if kind = 0x01 then
        if id = 0x01 then .cmdPing data
        else if id = 0x02 then .cmdStartStream data
        else if id = 0x03 then .cmdStopStream data
        else .cmdUnknown id data
      else .devNotCommand kind id data) ∧
    decodeHeader .host (headerWord kind id) data =
      (if kind = 0x02 then .evtResponse id data
      else if kind = 0x03 then .evtStream id data
      else if kind = 0x04 then .evtError id data
      else .hostReject kind id data)

/-! ### The CRC-32 generator -/

/-- R66. `CRC.INIT` at any time, whatever `CRC.ACC` held; `CRC.FINAL` after it returns 0. -/
def Obligations.CrcInitSetsAccumulator : Prop :=
  ∀ (p : Params) (s : State),
    encode p .crcInit = .op 0x01 {} ∧
    ∃ t, t = drives { s with acc := 0xFFFFFFFF, accReady := true } (.ok .none) ∧
      exec .crcInit s = .next t ∧
      exec .crcFinal t = .next (drives t (.ok (.word 0x00000000)))

/-- R67. One byte, every byte value; refused before any `CRC.INIT` since reset, where it has no defined
result (93_implementation_defined.md U7 `refuse`); the two examples. -/
def Obligations.CrcUpdateIsTableStep : Prop :=
  (∀ (p : Params) (s : State) (b : Byte),
    encode p (.crcUpdate b) = .op 0x02 { byte := b } ∧
    let index : Byte := ((s.acc ^^^ b.zeroExtend 32) &&& 0xFF).truncate 8
    let after : Word32 := (s.acc >>> 8) ^^^ crcTbl index
    exec (.crcUpdate b) s =
      if s.accReady then .next (drives { s with acc := after } (.ok .none))
      else .refused .crcBeforeInit) ∧
  (∀ s : State, s.accReady = true → s.acc = 0xFFFFFFFF →
    exec (.crcUpdate 0x00) s = .next (drives { s with acc := 0x2DFD1072 } (.ok .none)) ∧
    exec (.crcUpdate 0x31) s = .next (drives { s with acc := 0x7C231048 } (.ok .none)))

/-- 40_crc32.md section 1: the table is the eight-step loop, and its anchor entries. -/
def Obligations.CrcTableIsShiftXorLoop : Prop :=
  (∀ i : Byte, crcTbl i = crcShift (crcShift (crcShift (crcShift (crcShift (crcShift (crcShift
    (crcShift (i.zeroExtend 32))))))))) ∧
  (∀ c : Word32, crcShift c = if c &&& 1 = 1 then (c >>> 1) ^^^ 0xEDB88320 else c >>> 1) ∧
  crcTbl 0x00 = 0x00000000 ∧ crcTbl 0x01 = 0x77073096 ∧ crcTbl 0x02 = 0xEE0E612C ∧
  crcTbl 0x03 = 0x990951BA ∧ crcTbl 0x04 = 0x076DC419 ∧ crcTbl 0x08 = 0x0EDB8832 ∧
  crcTbl 0x10 = 0x1DB71064 ∧ crcTbl 0x80 = 0xEDB88320 ∧ crcTbl 0xFF = 0x2D02EF8D

/-- 40_crc32.md section 2 (decision D16): `CRC.FINAL` gives the accumulator inverted and leaves it;
refused before any `CRC.INIT` since reset. -/
def Obligations.CrcFinalInvertsAccumulator : Prop :=
  ∀ s : State, exec .crcFinal s =
    if s.accReady then .next (drives s (.ok (.word (s.acc ^^^ 0xFFFFFFFF))))
    else .refused .crcBeforeInit

/-- R69. `CRC.CHECKSUM` answers what `CRC.INIT`, one `CRC.UPDATE` per byte in order and `CRC.FINAL`
answer, and changes nothing but `CRC.ACC` and the ports; the corner cases and the example. What it
leaves in `CRC.ACC` is not stated (log 12). -/
def Obligations.CrcChecksumIsSplitSequence : Prop :=
  (∀ (p : Params) (chunks : List Bytes) (s : State), ∃ (t u : State) (v : Word32),
    encode p (.crcChecksum chunks) = .op 0x04 { chunks := chunks } ∧
    execAll (.crcInit :: (chunks.flatten.map .crcUpdate ++ [.crcFinal])) s = .next t ∧
    exec (.crcChecksum chunks) s = .next u ∧
    t.out = some (.ok (.word v)) ∧
    u = drives { s with acc := u.acc, accReady := u.accReady } (.ok (.word v))) ∧
  (∀ (s : State) (a b : List Bytes), exec (.crcChecksum (a ++ [[]] ++ b)) s =
    exec (.crcChecksum (a ++ b)) s) ∧
  (∀ s : State, ∃ t u v, exec (.crcChecksum []) s = .next t ∧ t.out = some (.ok (.word 0)) ∧
    exec (.crcChecksum [[]]) s = .next u ∧ u.out = some (.ok (.word 0)) ∧
    exec (.crcChecksum [[0x31, 0x32, 0x33, 0x34, 0x35, 0x36, 0x37, 0x38, 0x39]]) s = .next v ∧
    v.out = some (.ok (.word 0xCBF43926)))

/-- 40_crc32.md section 2: where the chunk boundaries fall does not matter. -/
def Obligations.CrcChunksEqualConcatenation : Prop :=
  ∀ (chunks : List Bytes) (s : State),
    exec (.crcChecksum chunks) s = exec (.crcChecksum [chunks.flatten]) s

/-- 40_crc32.md section 3: the table step is eight bit-serial steps. -/
def Obligations.CrcTableStepIsBitSerial : Prop :=
  ∀ (s : State) (b : Byte), s.accReady = true →
    let after : Word32 := crcShift (crcShift (crcShift (crcShift (crcShift (crcShift (crcShift
      (crcShift (s.acc ^^^ b.zeroExtend 32))))))))
    exec (.crcUpdate b) s = .next (drives { s with acc := after } (.ok .none))

/-- 40_crc32.md section 3 (property b): the residue, for every byte string. -/
def Obligations.CrcResidueIsConstant : Prop :=
  ∀ (m : Bytes) (s : State) (v : Word32) (t : State),
    exec (.crcChecksum [m]) s = .next t → t.out = some (.ok (.word v)) →
    ∃ u, exec (.crcChecksum [m ++ le32 v]) s = .next u ∧ u.out = some (.ok (.word 0x2144DF1C))

/-! ### The frame codec -/

/-- R75. The checksum of a Frame: four chunks, and equally the checksum of the encoded Frame less
its last four bytes; the checksum field is not covered. -/
def Obligations.FrameChecksumCoversAllButItself : Prop :=
  ∀ f : Frame,
    frameCrc f.destination f.source f.typeTag f.payload =
      crcChecksum [addrBytes f.destination, addrBytes f.source,
        [(f.typeTag >>> 8).truncate 8, f.typeTag.truncate 8], f.payload] ∧
    frameCrc f.destination f.source f.typeTag f.payload =
      crcChecksum [(frameEncode f).take ((frameEncode f).length - 4)]

/-- R77. `FRAME.NEW`: the bound, the checksum computed once, the example. -/
def Obligations.FrameNewChecksBoundAndSeals : Prop :=
  (∀ (p : Params) (s : State) (dst src : Address) (ty : Word16) (payload : Bytes),
    encode p (.frameNew dst src ty payload) =
      .op 0x08 { dst := dst, src := src, typeTag := ty, buffer := payload } ∧
    exec (.frameNew dst src ty payload) s = .next (drives s
      (if payload.length < 46 ∨ 1500 < payload.length then
        .err (.payloadOutOfBounds payload.length)
      else .ok (.frame ⟨dst, src, ty, payload, frameCrc dst src ty payload⟩))) ∧
    errorClass (.payloadOutOfBounds payload.length) = .sizeViolation) ∧
  (∀ s : State, exec (.frameNew ⟨2, 0, 0, 0, 0, 2⟩ ⟨2, 0, 0, 0, 0, 1⟩ 0x0800 (zeros 46)) s =
    .next (drives s (.ok (.frame
      ⟨⟨2, 0, 0, 0, 0, 2⟩, ⟨2, 0, 0, 0, 0, 1⟩, 0x0800, zeros 46, 0xB42EE8A9⟩))))

/-- R78. `FRAME.ENCODE`: the bytes in order, the length, the stored checksum as it is, so that an
invalid Frame encodes to bytes the decoder rejects; the example. -/
def Obligations.FrameEncodeLayout : Prop :=
  (∀ (p : Params) (s : State) (f : Frame),
    encode p (.frameEncode f) = .op 0x09 { frame := f } ∧
    ∃ w : Bytes, exec (.frameEncode f) s = .next (drives s (.ok (.bytes w))) ∧
      w = [f.destination.b0, f.destination.b1, f.destination.b2, f.destination.b3,
          f.destination.b4, f.destination.b5, f.source.b0, f.source.b1, f.source.b2, f.source.b3,
          f.source.b4, f.source.b5, (f.typeTag >>> 8).truncate 8, f.typeTag.truncate 8] ++
        f.payload ++
        [f.checksum.truncate 8, (f.checksum >>> 8).truncate 8, (f.checksum >>> 16).truncate 8,
          (f.checksum >>> 24).truncate 8] ∧
      w.length = f.payload.length + 18 ∧
      (f.WellFormed → 64 ≤ w.length ∧ w.length ≤ 1518) ∧
      (f.WellFormed → f.checksum ≠ frameCrc f.destination f.source f.typeTag f.payload →
        exec (.frameDecode w) s = .next (drives s (.err .checksumMismatch)))) ∧
  (∀ s : State,
    exec (.frameEncode ⟨⟨2, 0, 0, 0, 0, 2⟩, ⟨2, 0, 0, 0, 0, 1⟩, 0x0800, zeros 46, 0xB42EE8A9⟩) s =
    .next (drives s (.ok (.bytes ([0x02, 0x00, 0x00, 0x00, 0x00, 0x02, 0x02, 0x00, 0x00, 0x00, 0x00,
      0x01, 0x08, 0x00] ++ List.replicate 46 0x00 ++ [0xA9, 0xE8, 0x2E, 0xB4])))))

/-- R79. `FRAME.DECODE`: the checks in order, the fields at their offsets; 64 zero bytes; the
example. -/
def Obligations.FrameDecodeChecksInOrder : Prop :=
  (∀ (p : Params) (s : State) (w : Bytes),
    encode p (.frameDecode w) = .op 0x0A { buffer := w } ∧
    exec (.frameDecode w) s = .next (drives s
      (if w.length < 64 then .err (.frameTooShort w.length)
      else if 1518 < w.length then .err (.frameTooLong w.length)
      else
        let dst : Address := ⟨byteAt w 0, byteAt w 1, byteAt w 2, byteAt w 3, byteAt w 4, byteAt w 5⟩
        let src : Address := ⟨byteAt w 6, byteAt w 7, byteAt w 8, byteAt w 9, byteAt w 10, byteAt w 11⟩
        let ty : Word16 := ((byteAt w 12).zeroExtend 16 <<< 8) ||| (byteAt w 13).zeroExtend 16
        let payload : Bytes := (w.drop 14).take (w.length - 18)
        let crc : Word32 := (byteAt w (w.length - 4)).zeroExtend 32 |||
          ((byteAt w (w.length - 3)).zeroExtend 32 <<< 8) |||
          ((byteAt w (w.length - 2)).zeroExtend 32 <<< 16) |||
          ((byteAt w (w.length - 1)).zeroExtend 32 <<< 24)
        if frameCrc dst src ty payload ≠ crc then .err .checksumMismatch
        else .ok (.frame ⟨dst, src, ty, payload, crc⟩))) ∧
    errorClass (.frameTooShort w.length) = .sizeViolation ∧
    errorClass (.frameTooLong w.length) = .sizeViolation) ∧
  (∀ s : State, exec (.frameDecode (List.replicate 64 0)) s =
    .next (drives s (.err .checksumMismatch)) ∧
    crcChecksum [List.replicate 60 0] = 0x04128908) ∧
  (∀ s : State, exec (.frameDecode ([0x02, 0x00, 0x00, 0x00, 0x00, 0x02, 0x02, 0x00, 0x00, 0x00,
      0x00, 0x01, 0x08, 0x00] ++ List.replicate 46 0x00 ++ [0xA9, 0xE8, 0x2E, 0xB4])) s =
    .next (drives s (.ok (.frame
      ⟨⟨2, 0, 0, 0, 0, 2⟩, ⟨2, 0, 0, 0, 0, 1⟩, 0x0800, zeros 46, 0xB42EE8A9⟩))))

/-- R80. `FRAME.IS_VALID` recomputes and compares; 1 for every Frame an operation other than
`FRAME.SET_PAYLOAD` with `suppress = 1` returns; after that one, 0 unless the checksums agree; the
example. -/
def Obligations.FrameIsValidRecomputes : Prop :=
  (∀ (p : Params) (s : State) (f : Frame),
    encode p (.frameIsValid f) = .op 0x0B { frame := f } ∧
    exec (.frameIsValid f) s = .next (drives s (.ok (.bit (decide
      (f.checksum = frameCrc f.destination f.source f.typeTag f.payload)))))) ∧
  (∀ (i : Instr) (s t : State) (f : Frame), exec i s = .next t → t.out = some (.ok (.frame f)) →
    (∀ g q, i ≠ .frameSetPayload g q true) →
    exec (.frameIsValid f) s = .next (drives s (.ok (.bit true)))) ∧
  (∀ (s : State) (f g : Frame) (q : Bytes),
    exec (.frameIsValid f) s = .next (drives s (.ok (.bit true))) →
    exec (.frameSetPayload f q true) s = .next (drives s (.ok (.frame g))) →
    exec (.frameIsValid g) s = .next (drives s (.ok (.bit (decide
      (frameCrc f.destination f.source f.typeTag q =
        frameCrc f.destination f.source f.typeTag f.payload)))))) ∧
  (∀ s : State, exec (.frameIsValid
      ⟨⟨2, 0, 0, 0, 0, 2⟩, ⟨2, 0, 0, 0, 0, 1⟩, 0x0800, zeros 46, 0xB42EE8A9⟩) s =
    .next (drives s (.ok (.bit true))))

/-- R81, R82, R83. The three recomputing mutators on any Frame; a Frame of legal length never gives
the error; setting a valid Frame's own destination, source or type returns it; the examples. -/
def Obligations.FrameMutatorsReseal : Prop :=
  (∀ (p : Params) (s : State) (f : Frame) (a : Address) (ty : Word16),
    encode p (.frameSetDst f a) = .op 0x0C { frame := f, dst := a } ∧
    encode p (.frameSetSrc f a) = .op 0x0D { frame := f, src := a } ∧
    encode p (.frameSetType f ty) = .op 0x0E { frame := f, typeTag := ty } ∧
    (if f.payload.length < 46 ∨ 1500 < f.payload.length then
      exec (.frameSetDst f a) s =
        .next (drives s (.err (.payloadOutOfBounds f.payload.length))) ∧
      exec (.frameSetSrc f a) s =
        .next (drives s (.err (.payloadOutOfBounds f.payload.length))) ∧
      exec (.frameSetType f ty) s =
        .next (drives s (.err (.payloadOutOfBounds f.payload.length)))
    else
      exec (.frameSetDst f a) s = .next (drives s (.ok (.frame { f with
        destination := a, checksum := frameCrc a f.source f.typeTag f.payload }))) ∧
      exec (.frameSetSrc f a) s = .next (drives s (.ok (.frame { f with
        source := a, checksum := frameCrc f.destination a f.typeTag f.payload }))) ∧
      exec (.frameSetType f ty) s = .next (drives s (.ok (.frame { f with
        typeTag := ty, checksum := frameCrc f.destination f.source ty f.payload }))) ∧
      (f.checksum = frameCrc f.destination f.source f.typeTag f.payload →
        exec (.frameSetDst f f.destination) s = .next (drives s (.ok (.frame f))) ∧
        exec (.frameSetSrc f f.source) s = .next (drives s (.ok (.frame f))) ∧
        exec (.frameSetType f f.typeTag) s = .next (drives s (.ok (.frame f)))))) ∧
  (∀ s : State,
    let f : Frame := ⟨⟨2, 0, 0, 0, 0, 2⟩, ⟨2, 0, 0, 0, 0, 1⟩, 0x0800, zeros 46, 0xB42EE8A9⟩
    exec (.frameSetDst f ⟨0xFF, 0xFF, 0xFF, 0xFF, 0xFF, 0xFF⟩) s = .next (drives s (.ok (.frame
      { f with destination := ⟨0xFF, 0xFF, 0xFF, 0xFF, 0xFF, 0xFF⟩, checksum := 0xF82D88C1 }))) ∧
    exec (.frameSetSrc f ⟨2, 0, 0, 0, 0, 2⟩) s = .next (drives s (.ok (.frame
      { f with source := ⟨2, 0, 0, 0, 0, 2⟩, checksum := 0xFEB79FDD }))) ∧
    exec (.frameSetType f 0x0806) s = .next (drives s (.ok (.frame
      { f with typeTag := 0x0806, checksum := 0x1849D5B6 }))) ∧
    exec (.frameSetType f 0x0608) s = .next (drives s (.ok (.frame
      { f with typeTag := 0x0608, checksum := 0xF25EB56A }))))

/-- 41_frame_codec.md section 4. `FRAME.SET_PAYLOAD`: the bound whatever `suppress` is; with
`suppress = 1` the checksum is kept, and a recomputing mutator on the result makes it valid again
(which the spec marks as its own inference); the example. -/
def Obligations.FrameSetPayloadSuppresses : Prop :=
  (∀ (p : Params) (s : State) (f : Frame) (q : Bytes) (suppress : Bool),
    encode p (.frameSetPayload f q suppress) =
      .op 0x0F { frame := f, buffer := q, suppress := suppress } ∧
    (({} : Ports).suppress = false) ∧
    (if q.length < 46 ∨ 1500 < q.length then
      exec (.frameSetPayload f q suppress) s =
        .next (drives s (.err (.payloadOutOfBounds q.length))) ∧
      errorClass (.payloadOutOfBounds q.length) = .sizeViolation
    else if suppress then
      let g : Frame := { f with payload := q }
      exec (.frameSetPayload f q suppress) s = .next (drives s (.ok (.frame g))) ∧
      (frameValid g = true ↔ frameCrc f.destination f.source f.typeTag q = f.checksum) ∧
      (∀ (a : Address) (ty : Word16) (i : Instr) (t : State) (h : Frame),
        i ∈ [Instr.frameSetDst g a, .frameSetSrc g a, .frameSetType g ty,
          .frameSetPayload g q false] →
        exec i s = .next t → t.out = some (.ok (.frame h)) → frameValid h = true)
    else
      exec (.frameSetPayload f q suppress) s = .next (drives s (.ok (.frame { f with
        payload := q, checksum := frameCrc f.destination f.source f.typeTag q }))))) ∧
  (∀ s : State,
    let f : Frame := ⟨⟨2, 0, 0, 0, 0, 2⟩, ⟨2, 0, 0, 0, 0, 1⟩, 0x0800, zeros 46, 0xB42EE8A9⟩
    let q : Bytes := 0x01 :: zeros 45
    exec (.frameSetPayload f q true) s = .next (drives s (.ok (.frame { f with payload := q }))) ∧
    frameCrc f.destination f.source f.typeTag q = 0xCBE7733A ∧
    exec (.frameDecode (frameEncode { f with payload := q })) s =
      .next (drives s (.err .checksumMismatch)))

/-- 41_frame_codec.md section 5: encode then decode gives the Frame back with every field, and it is
valid; and a byte string that decodes is the encoding of what it decodes to. -/
def Obligations.FrameRoundTrip : Prop :=
  (∀ (s : State) (dst src : Address) (ty : Word16) (payload : Bytes),
    46 ≤ payload.length → payload.length ≤ 1500 →
    ∃ (f : Frame) (w : Bytes),
      exec (.frameNew dst src ty payload) s = .next (drives s (.ok (.frame f))) ∧
      f.destination = dst ∧ f.source = src ∧ f.typeTag = ty ∧ f.payload = payload ∧
      exec (.frameEncode f) s = .next (drives s (.ok (.bytes w))) ∧
      exec (.frameDecode w) s = .next (drives s (.ok (.frame f))) ∧
      exec (.frameIsValid f) s = .next (drives s (.ok (.bit true)))) ∧
  (∀ (s : State) (w : Bytes) (f : Frame),
    exec (.frameDecode w) s = .next (drives s (.ok (.frame f))) →
    exec (.frameEncode f) s = .next (drives s (.ok (.bytes w))))

/-- 41_frame_codec.md section 5: any change confined to one byte of an encoded valid Frame, the
checksum's own bytes included, makes decoding fail with `ChecksumMismatch`. -/
def Obligations.SingleByteCorruptionIsDetected : Prop :=
  ∀ (s : State) (f : Frame) (k : Nat) (mask : Byte),
    f.WellFormed → frameValid f = true → k < (frameEncode f).length → mask ≠ 0 →
    exec (.frameDecode ((frameEncode f).modify k (· ^^^ mask))) s =
      .next (drives s (.err .checksumMismatch))

/-- R88. The type tag crosses the codec through a byte swap: the wire bytes of 0x0806, the same
number back, and exchanged type bytes are detected. -/
def Obligations.SwappedTypeBytesAreDetected : Prop :=
  (∀ f : Frame, f.typeTag = 0x0806 →
    byteAt (frameEncode f) 12 = 0x08 ∧ byteAt (frameEncode f) 13 = 0x06) ∧
  (∀ (s : State) (dst src : Address) (ty : Word16) (payload : Bytes) (f : Frame) (t : State),
    exec (.frameNew dst src ty payload) s = .next t → t.out = some (.ok (.frame f)) →
    ∃ (u : State) (g : Frame), exec (.frameDecode (frameEncode f)) s = .next u ∧
      u.out = some (.ok (.frame g)) ∧ g.typeTag = ty) ∧
  (∀ (s : State) (f : Frame), f.WellFormed → frameValid f = true →
    byteAt (frameEncode f) 12 ≠ byteAt (frameEncode f) 13 →
    exec (.frameDecode (((frameEncode f).set 12 (byteAt (frameEncode f) 13)).set 13
      (byteAt (frameEncode f) 12))) s = .next (drives s (.err .checksumMismatch)))

/-- 41_frame_codec.md section 1: every Frame any operation returns has a payload in bounds, and is
valid unless it came from `FRAME.SET_PAYLOAD` with `suppress = 1`. -/
def Obligations.OnlySuppressYieldsInvalidFrame : Prop :=
  ∀ (i : Instr) (s t : State) (f : Frame), exec i s = .next t → t.out = some (.ok (.frame f)) →
    46 ≤ f.payload.length ∧ f.payload.length ≤ 1500 ∧
    (frameValid f = false → ∃ g q, i = .frameSetPayload g q true)

/-! ### The message codec -/

/-- R91. `MSG.PACK`: the bound, the header in the configured byte order, the zero padding
between header and data, the total length; the example. -/
def Obligations.MsgPackPadsBeforeData : Prop :=
  (∀ (p : Params) (s : State) (kind id : Byte) (data : Bytes),
    encode p (.msgPack kind id data) =
      .op 0x10 { kind := kind, identifier := id, buffer := data } ∧
    (if 65535 < data.length then
      exec (.msgPack kind id data) s = .next (drives s (.err (.dataTooLarge data.length))) ∧
      errorClass (.dataTooLarge data.length) = .sizeViolation
    else ∃ w : Bytes,
      exec (.msgPack kind id data) s = .next (drives s (.ok (.bytes w))) ∧
      w = [kind, id] ++
        (match s.cfg.lenOrder with
          | .le => [BitVec.ofNat 8 (data.length % 256), BitVec.ofNat 8 (data.length / 256)]
          | .be => [BitVec.ofNat 8 (data.length / 256), BitVec.ofNat 8 (data.length % 256)]) ++
        List.replicate (42 - data.length) 0x00 ++ data ∧
      w.length = max 46 (4 + data.length))) ∧
  (∀ s : State, s.cfg.lenOrder = .le →
    exec (.msgPack 0x02 0x01 [0x50, 0x4F, 0x4E, 0x47]) s = .next (drives s (.ok (.bytes
      ([0x02, 0x01, 0x04, 0x00] ++ List.replicate 38 0x00 ++ [0x50, 0x4F, 0x4E, 0x47])))))

/-- R93. `MSG.UNPACK`: the checks in order, the data the last `length` bytes; the kind unchecked; the
example. -/
def Obligations.MsgUnpackTakesTail : Prop :=
  (∀ (p : Params) (s : State) (b : Bytes),
    encode p (.msgUnpack b) = .op 0x11 { buffer := b } ∧
    exec (.msgUnpack b) s = .next (drives s
      (if b.length < 4 then .err (.msgTooShort b.length)
      else
        let len : Nat := match s.cfg.lenOrder with
          | .le => (byteAt b 2).toNat + 256 * (byteAt b 3).toNat
          | .be => 256 * (byteAt b 2).toNat + (byteAt b 3).toNat
        if b.length - 4 < len then .err (.lengthExceedsBuffer len b.length)
        else .ok (.message
          ⟨byteAt b 0, byteAt b 1, BitVec.ofNat 16 len, b.drop (b.length - len)⟩))) ∧
    (∀ n k, errorClass (.msgTooShort n) = .truncatedBuffer ∧
      errorClass (.lengthExceedsBuffer k n) = .truncatedBuffer)) ∧
  (∀ s : State, s.cfg.lenOrder = .le →
    exec (.msgUnpack ([0x02, 0x01, 0x04, 0x00] ++ List.replicate 38 0x00 ++
      [0x50, 0x4F, 0x4E, 0x47])) s = .next (drives s (.ok (.message
        ⟨0x02, 0x01, 4, [0x50, 0x4F, 0x4E, 0x47]⟩))))

/-- R96. Pack then unpack gives the Message back, under either byte order; the converse fails;
dropping the last byte of an unpadded Message is detected. -/
def Obligations.MsgRoundTrip : Prop :=
  (∀ (s : State) (kind id : Byte) (data : Bytes), data.length ≤ 65535 →
    ∃ w : Bytes, exec (.msgPack kind id data) s = .next (drives s (.ok (.bytes w))) ∧
      exec (.msgUnpack w) s = .next (drives s (.ok (.message
        ⟨kind, id, BitVec.ofNat 16 data.length, data⟩))) ∧
      (42 ≤ data.length →
        exec (.msgUnpack w.dropLast) s = .next (drives s
          (.err (.lengthExceedsBuffer data.length (data.length + 3)))))) ∧
  (∀ s : State, ∃ (w : Bytes) (m : Message),
    exec (.msgUnpack w) s = .next (drives s (.ok (.message m))) ∧
    exec (.msgPack m.kind m.identifier m.data) s ≠ .next (drives s (.ok (.bytes w))))

/-- 30_encoding.md section 2: the padding of a received Message is never read. -/
def Obligations.PaddingIsIgnored : Prop :=
  ∀ (s : State) (a b : Bytes) (m : Message), a.length = b.length → a.take 4 = b.take 4 →
    exec (.msgUnpack a) s = .next (drives s (.ok (.message m))) →
    a.drop (a.length - m.length.toNat) = b.drop (b.length - m.length.toNat) →
    exec (.msgUnpack b) s = .next (drives s (.ok (.message m)))

/-- 42_message_codec.md section 4 (consequence c): a padded Message that loses its last byte unpacks
without error to one padding byte and all data but the last. -/
def Obligations.TruncatedPaddedMessageShifts : Prop :=
  ∀ (s : State) (kind id : Byte) (data : Bytes), data.length ≤ 41 →
    exec (.msgUnpack (packedMessage s.cfg.lenOrder kind id data).dropLast) s =
      .next (drives s (.ok (.message ⟨kind, id, BitVec.ofNat 16 data.length,
        if data = [] then [] else 0x00 :: data.dropLast⟩)))

/-! ### The link adapter -/

/-- 43_dispatch_router.md section 1 (decisions D5, D6): `LINK.TX` appends one Frame from the sender
to its peer, or nothing. -/
def Obligations.LinkTxAppendsOneFrame : Prop :=
  ∀ (s : State) (m : Bytes),
    exec (.linkTx .host m) s = .next
      (if m.length < 46 ∨ 1500 < m.length then drives s (.err (.payloadOutOfBounds m.length))
      else drives { s with h2d := s.h2d ++ [frameEncode ⟨s.cfg.deviceAddr, s.cfg.hostAddr,
        s.cfg.linkType, m, frameCrc s.cfg.deviceAddr s.cfg.hostAddr s.cfg.linkType m⟩] }
        (.ok .none)) ∧
    exec (.linkTx .device m) s = .next
      (if m.length < 46 ∨ 1500 < m.length then drives s (.err (.payloadOutOfBounds m.length))
      else drives { s with d2h := s.d2h ++ [frameEncode ⟨s.cfg.hostAddr, s.cfg.deviceAddr,
        s.cfg.linkType, m, frameCrc s.cfg.hostAddr s.cfg.deviceAddr s.cfg.linkType m⟩] }
        (.ok .none))

/-- 43_dispatch_router.md section 1 (decisions D5, D24, D25): `LINK.RX` on an empty channel changes
nothing; else it removes the head, whatever becomes of it; the address filter is spelled out. -/
def Obligations.LinkRxConsumesHead : Prop :=
  ∀ (s : State) (role : Role) (t : Transform),
    (s.incoming role = [] →
      exec (.linkRx role t) s = .next (drives s (.ok (.received none)))) ∧
    (∀ w rest, s.incoming role = w :: rest → corruptAllows s.params.corrupt t w = true →
      exec (.linkRx role t) s = .next (drives
        (match role with
          | .device => { s with h2d := rest }
          | .host => { s with d2h := rest })
        (match frameDecode (applyTransform t w) with
          | .error e => .err e
          | .ok f =>
            let own := match role with
              | .device => s.cfg.deviceAddr
              | .host => s.cfg.hostAddr
            let peer := match role with
              | .device => s.cfg.hostAddr
              | .host => s.cfg.deviceAddr
            let passes := s.cfg.addrFilter = .off ∨
              (s.cfg.addrFilter = .dstOnly ∧ f.destination = own) ∨
              (s.cfg.addrFilter = .dstAndSrc ∧ f.destination = own ∧ f.source = peer)
            .ok (.received (if passes then some f.payload else none)))))

/-- 20_memory.md section 5 and 43_dispatch_router.md section 1: two Messages sent on an empty channel
are received whole and in order by the peer, under every address filter and every `CORRUPT` that
holds the identity, which is what is done to both Frames; nothing else of the state has changed. -/
def Obligations.LinkDeliversInOrder : Prop :=
  ∀ (s : State) (role : Role) (a b : Bytes),
    46 ≤ a.length → a.length ≤ 1500 → 46 ≤ b.length → b.length ≤ 1500 →
    s.incoming (otherRole role) = [] →
    (∀ w, corruptAllows s.params.corrupt .identity w = true) →
    ∃ t1 t2 t3 t4 : State,
      exec (.linkTx role a) s = .next t1 ∧ exec (.linkTx role b) t1 = .next t2 ∧
      exec (.linkRx (otherRole role) .identity) t2 = .next t3 ∧
      t3.out = some (.ok (.received (some a))) ∧
      exec (.linkRx (otherRole role) .identity) t3 = .next t4 ∧
      t4 = drives s (.ok (.received (some b)))

/-- 43_dispatch_router.md section 1, 60_exceptions.md section 5: a single-byte fault on the wire
always shows as `ChecksumMismatch`, and nothing happens but that the Frame is gone. -/
def Obligations.WireFaultShowsAsChecksumMismatch : Prop :=
  ∀ (s : State) (f : Frame) (rest : List Bytes) (k : Nat) (mask : Byte),
    f.WellFormed → frameValid f = true → k < (frameEncode f).length → mask ≠ 0 →
    .singleByte ∈ s.params.corrupt →
    (s.h2d = frameEncode f :: rest →
      exec (.linkRx .device (.xorByte k mask)) s =
        .next (drives { s with h2d := rest } (.err .checksumMismatch)) ∧
      exec (.devPoll (.xorByte k mask)) s =
        .next (drives { s with h2d := rest } (.err .checksumMismatch))) ∧
    (s.d2h = frameEncode f :: rest →
      exec (.linkRx .host (.xorByte k mask)) s =
        .next (drives { s with d2h := rest } (.err .checksumMismatch)) ∧
      exec (.hostPoll (.xorByte k mask)) s =
        .next (drives { s with d2h := rest } (.err .checksumMismatch)))

/-- 43_dispatch_router.md section 1 (decision D17): under the default `CORRUPT` and under the
fault-testing set, a receive or poll of a waiting Frame is refused exactly when the transform is not
in the set. `outside` says that for the set in force. That a pick outside the set is a refusal by
name is the model's form of "there is no such step" (log 13). -/
def Obligations.TransformOutsideCorruptIsRefused : Prop :=
  ∀ (s : State) (t : Transform) (w : Bytes) (rest : List Bytes) (outside : Prop),
    (s.params.corrupt = [.identity] ∧ (outside ↔ t ≠ .identity)) ∨
      (s.params.corrupt = [.identity, .singleByte] ∧ (outside ↔ OutsideFaultTesting t w)) →
    (s.h2d = w :: rest →
      (exec (.linkRx .device t) s = .refused .transformNotAllowed ↔ outside) ∧
      (exec (.devPoll t) s = .refused .transformNotAllowed ↔ outside)) ∧
    (s.d2h = w :: rest →
      (exec (.linkRx .host t) s = .refused .transformNotAllowed ↔ outside) ∧
      (exec (.hostPoll t) s = .refused .transformNotAllowed ↔ outside))

/-! ### The Device role -/

/-- 43_dispatch_router.md section 3 (decisions D7, D8, D9; run on their own, log 5): the five Device
rows of the router, for any data of the Message. -/
def Obligations.DeviceRowsAct : Prop :=
  ∀ (s : State) (data : Bytes) (kind id : Byte),
    exec (.cmdPing data) s = .next (drives { s with
      d2h := s.d2h ++ [sentFrame s.cfg .device 0x02 0x01 [0x50, 0x4F, 0x4E, 0x47]] }
      (.ok .none)) ∧
    exec (.cmdStartStream data) s = .next (drives { s with
      streaming := true,
      d2h := s.d2h ++ [sentFrame s.cfg .device 0x02 0x02 [0x4F, 0x4B]] } (.ok .none)) ∧
    exec (.cmdStopStream data) s = .next (drives { s with
      streaming := false,
      d2h := s.d2h ++ [sentFrame s.cfg .device 0x02 0x03 [0x4F, 0x4B]] } (.ok .none)) ∧
    exec (.cmdUnknown id data) s = .next (drives { s with
      d2h := s.d2h ++ [sentFrame s.cfg .device 0x04 0x01 []] } (.ok .none)) ∧
    exec (.devNotCommand kind id data) s = .next (drives s (.err (.protocolViolation kind)))

/-- 30_encoding.md section 3 and 43_dispatch_router.md section 3 (log 6, no request selects
them): the named Messages the Device emits inside its poll, each one Frame; only `STREAM.TELEMETRY`
touches the counter, modulo 2^32. -/
def Obligations.NamedMessagesAreEmitted : Prop :=
  ∀ s : State,
    exec .responsePing s = .next (drives { s with
      d2h := s.d2h ++ [sentFrame s.cfg .device 0x02 0x01 [0x50, 0x4F, 0x4E, 0x47]] }
      (.ok .none)) ∧
    exec .responseStartStream s = .next (drives { s with
      d2h := s.d2h ++ [sentFrame s.cfg .device 0x02 0x02 [0x4F, 0x4B]] } (.ok .none)) ∧
    exec .responseStopStream s = .next (drives { s with
      d2h := s.d2h ++ [sentFrame s.cfg .device 0x02 0x03 [0x4F, 0x4B]] } (.ok .none)) ∧
    exec .errorUnknownCmd s = .next (drives { s with
      d2h := s.d2h ++ [sentFrame s.cfg .device 0x04 0x01 []] } (.ok .none)) ∧
    exec .streamTelemetry s = .next (drives { s with
      counter := BitVec.ofNat 32 ((s.counter.toNat + 1) % 2 ^ 32),
      d2h := s.d2h ++ [sentFrame s.cfg .device 0x03 0x01
        [s.counter.truncate 8, (s.counter >>> 8).truncate 8, (s.counter >>> 16).truncate 8,
          (s.counter >>> 24).truncate 8]] } (.ok .none))

/-- 43_dispatch_router.md section 3 (decisions D8, D9, D11, D12): the Device's transition table for a
COMMAND, both values of `STREAM_PHASE`: the reply, then the stream Message if any. -/
def Obligations.DevicePollFollowsTransitionTable : Prop :=
  ∀ (s : State) (t : Transform) (w payload : Bytes) (rest : List Bytes) (m : Message),
    s.h2d = w :: rest → corruptAllows s.params.corrupt t w = true →
    linkAccept s.cfg .device (applyTransform t w) = .ok (some payload) →
    msgUnpack s.cfg.lenOrder payload = .ok m → m.kind = 0x01 →
    let reply :=
      if m.identifier = 0x01 then sentFrame s.cfg .device 0x02 0x01 [0x50, 0x4F, 0x4E, 0x47]
      else if m.identifier = 0x02 then sentFrame s.cfg .device 0x02 0x02 [0x4F, 0x4B]
      else if m.identifier = 0x03 then sentFrame s.cfg .device 0x02 0x03 [0x4F, 0x4B]
      else sentFrame s.cfg .device 0x04 0x01 []
    let after :=
      if m.identifier = 0x02 then true
      else if m.identifier = 0x03 then false
      else s.streaming
    let emits := match s.cfg.streamPhase with
      | .postCmd => after
      | .preCmd => s.streaming
    exec (.devPoll t) s = .next (drives { s with
      streaming := after
      counter := if emits then s.counter + 1 else s.counter
      h2d := rest
      d2h := s.d2h ++ [reply] ++ (if emits then [telemetryFrame s] else []) } (.ok .none))

/-- 43_dispatch_router.md section 3: a Device cycle with nothing pending, or whose Frame the address
filter drops, is exactly the stream emission. -/
def Obligations.DevicePollWithoutCommand : Prop :=
  ∀ (s : State) (t : Transform),
    let emitted := if s.streaming then [telemetryFrame s] else []
    let counted := if s.streaming then s.counter + 1 else s.counter
    (s.h2d = [] → exec (.devPoll t) s = .next (drives { s with
      counter := counted, d2h := s.d2h ++ emitted } (.ok .none))) ∧
    (∀ w rest, s.h2d = w :: rest → corruptAllows s.params.corrupt t w = true →
      linkAccept s.cfg .device (applyTransform t w) = .ok none →
      exec (.devPoll t) s = .next (drives { s with
        counter := counted, h2d := rest, d2h := s.d2h ++ emitted } (.ok .none)))

/-- 60_exceptions.md section 4, 43_dispatch_router.md section 3 (decisions D7, D14, D25): a Device
poll that meets an error reports it, has consumed the Frame, and changes nothing else; the layers
are crossed from the outside in. -/
def Obligations.DevicePollErrorChangesNothingElse : Prop :=
  ∀ (s : State) (t : Transform) (w : Bytes) (rest : List Bytes) (e : BlockError),
    s.h2d = w :: rest → corruptAllows s.params.corrupt t w = true →
    (linkAccept s.cfg .device (applyTransform t w) = .error e ∨
      ∃ payload, linkAccept s.cfg .device (applyTransform t w) = .ok (some payload) ∧
        (msgUnpack s.cfg.lenOrder payload = .error e ∨
          ∃ m, msgUnpack s.cfg.lenOrder payload = .ok m ∧ m.kind ≠ 0x01 ∧
            e = .protocolViolation m.kind)) →
    exec (.devPoll t) s = .next (drives { s with h2d := rest } (.err e))

/-- 60_exceptions.md section 1: `MsgTooShort` cannot arise inside a poll, and no poll reports a size
error of an encoder. -/
def Obligations.PollNeverReportsEncoderErrors : Prop :=
  ∀ (s u : State) (t : Transform) (n : Nat),
    (exec (.devPoll t) s = .next u ∨ exec (.hostPoll t) s = .next u) →
    u.out ≠ some (.err (.msgTooShort n)) ∧ u.out ≠ some (.err (.payloadOutOfBounds n)) ∧
    u.out ≠ some (.err (.dataTooLarge n))

/-! ### The Host role -/

/-- R114. `HOST.SEND_COMMAND` for every identifier: one COMMAND Message in one Frame on the
Host-to-Device channel, or an error and nothing sent; the example. -/
def Obligations.HostSendCommandAppendsOneFrame : Prop :=
  (∀ (p : Params) (s : State) (id : Byte) (data : Bytes),
    encode p (.hostSendCommand id data) = .op 0x1C { identifier := id, buffer := data } ∧
    exec (.hostSendCommand id data) s = .next
      (if 65535 < data.length then drives s (.err (.dataTooLarge data.length))
      else if 1496 < data.length then drives s (.err (.payloadOutOfBounds (4 + data.length)))
      else drives { s with h2d := s.h2d ++ [sentFrame s.cfg .host 0x01 id data] } (.ok .none))) ∧
  (∀ s : State, s.cfg.hostAddr = ⟨2, 0, 0, 0, 0, 1⟩ → s.cfg.deviceAddr = ⟨2, 0, 0, 0, 0, 2⟩ →
    s.cfg.linkType = 0x0800 →
    exec (.hostSendCommand 0x01 []) s = .next (drives { s with h2d := s.h2d ++
      [[0x02, 0x00, 0x00, 0x00, 0x00, 0x02, 0x02, 0x00, 0x00, 0x00, 0x00, 0x01, 0x08, 0x00,
        0x01, 0x01, 0x00, 0x00] ++ List.replicate 42 0x00 ++ [0x76, 0x5B, 0x71, 0x68]] }
      (.ok .none)))

/-- 43_dispatch_router.md section 4 (decisions D7, D23): `HOST.POLL` takes at most one Frame,
classifies by kind alone, passes identifier and data on, and rejects every other kind. -/
def Obligations.HostPollClassifies : Prop :=
  ∀ (s : State) (t : Transform),
    (s.d2h = [] → exec (.hostPoll t) s = .next (drivesEvent s none)) ∧
    (∀ w rest, s.d2h = w :: rest → corruptAllows s.params.corrupt t w = true →
      exec (.hostPoll t) s = .next
        (match linkAccept s.cfg .host (applyTransform t w) with
          | .error e => drives { s with d2h := rest } (.err e)
          | .ok none => drivesEvent { s with d2h := rest } none
          | .ok (some payload) =>
            match msgUnpack s.cfg.lenOrder payload with
            | .error e => drives { s with d2h := rest } (.err e)
            | .ok m =>
              if m.kind = 0x02 then
                drivesEvent { s with d2h := rest } (some ⟨.response, m.identifier, m.data⟩)
              else if m.kind = 0x03 then
                drivesEvent { s with d2h := rest } (some ⟨.stream, m.identifier, m.data⟩)
              else if m.kind = 0x04 then
                drivesEvent { s with d2h := rest } (some ⟨.error, m.identifier, m.data⟩)
              else drives { s with d2h := rest } (.err (.protocolViolation m.kind))))

/-- 43_dispatch_router.md section 4 (decision D7; run on their own, log 5, log 6): the four Host rows
of the router, and `ERROR.BAD_PAYLOAD` as the Host receives it. -/
def Obligations.HostRowsAct : Prop :=
  ∀ (s : State) (kind id : Byte) (data : Bytes),
    exec (.evtResponse id data) s = .next (drivesEvent s (some ⟨.response, id, data⟩)) ∧
    exec (.evtStream id data) s = .next (drivesEvent s (some ⟨.stream, id, data⟩)) ∧
    exec (.evtError id data) s = .next (drivesEvent s (some ⟨.error, id, data⟩)) ∧
    exec (.hostReject kind id data) s = .next (drives s (.err (.protocolViolation kind))) ∧
    exec (.errorBadPayload data) s = .next (drivesEvent s (some ⟨.error, 0x02, data⟩))

/-- 30_encoding.md section 1 (decision D2, log 7): a named type tag is its parameter's number, and
nothing branches on it. -/
def Obligations.NamedTypeTagsAreNumbers : Prop :=
  ∀ s : State,
    exec .typeIpv4 s = .next (drives s (.ok (.tag s.params.typeIpv4))) ∧
    exec .typeIpv6 s = .next (drives s (.ok (.tag s.params.typeIpv6))) ∧
    exec .typeArp s = .next (drives s (.ok (.tag s.params.typeArp)))

/-- 95_test_vectors.md section 6, program P1: from any state with empty channels, a command sent by
the Host is answered by the Device's next poll, and the Host's next poll gives the answer. Both polls
receive with the identity, which `CORRUPT` must hold. -/
def Obligations.PingScenario : Prop :=
  ∀ s : State, s.h2d = [] → s.d2h = [] → s.streaming = false →
    (∀ w, corruptAllows s.params.corrupt .identity w = true) →
    ∃ t u v : State,
      exec (.hostSendCommand 0x01 []) s = .next t ∧ exec (.devPoll .identity) t = .next u ∧
      exec (.hostPoll .identity) u = .next v ∧
      v = drivesEvent s (some ⟨.response, 0x01, [0x50, 0x4F, 0x4E, 0x47]⟩)

/-! ### Errors -/

/-- 60_exceptions.md section 1 (decision D22): the numeric code and the class of each error. -/
def Obligations.ErrorCodesAndClasses : Prop :=
  ∀ (n k : Nat) (kind : Byte),
    (errorCode (.frameTooShort n) = 1 ∧ errorClass (.frameTooShort n) = .sizeViolation) ∧
    (errorCode (.frameTooLong n) = 2 ∧ errorClass (.frameTooLong n) = .sizeViolation) ∧
    (errorCode .checksumMismatch = 3 ∧ errorClass .checksumMismatch = .checksumMismatch) ∧
    (errorCode (.payloadOutOfBounds n) = 4 ∧
      errorClass (.payloadOutOfBounds n) = .sizeViolation) ∧
    (errorCode (.dataTooLarge n) = 5 ∧ errorClass (.dataTooLarge n) = .sizeViolation) ∧
    (errorCode (.msgTooShort n) = 6 ∧ errorClass (.msgTooShort n) = .truncatedBuffer) ∧
    (errorCode (.lengthExceedsBuffer k n) = 7 ∧
      errorClass (.lengthExceedsBuffer k n) = .truncatedBuffer) ∧
    (errorCode (.protocolViolation kind) = 8 ∧
      errorClass (.protocolViolation kind) = .protocolViolation)

/-! ### The whole block -/

/-- The invariant `GoodState` (the configuration is the parameters, both channels hold only Frames
that decode, the result port is well formed) is kept by every step, from every state that has it. -/
def Obligations.StepKeepsGoodState : Prop :=
  ∀ s t : State, GoodState s → step s = .next t → GoodState t

/-- The state after reset has the invariant, under any parameters. -/
def Obligations.ResetIsGoodState : Prop :=
  GoodState State.reset ∧ ∀ p : Params, GoodState (State.resetUnder p)

/-- 10_state.md section 5: `DEV.STREAMING` is written by the two stream commands only, on their own
or in a Device poll, and by reset. -/
def Obligations.StreamingChangesOnlyByCommand : Prop :=
  ∀ (i : Instr) (s t : State), exec i s = .next t → t.streaming ≠ s.streaming →
    i = .reset ∨ (∃ data, i = .cmdStartStream data ∧ t.streaming = true) ∨
    (∃ data, i = .cmdStopStream data ∧ t.streaming = false) ∨
    (∃ tr w rest payload m, i = .devPoll tr ∧ s.h2d = w :: rest ∧
      linkAccept s.cfg .device (applyTransform tr w) = .ok (some payload) ∧
      msgUnpack s.cfg.lenOrder payload = .ok m ∧ m.kind = 0x01 ∧
      ((m.identifier = 0x02 ∧ t.streaming = true) ∨ (m.identifier = 0x03 ∧ t.streaming = false)))

/-- 10_state.md section 5 (decision D12): but for reset, `DEV.COUNTER` changes only by one, modulo
2^32, when a telemetry Message that carries its old value is appended to the Device-to-Host channel,
as the last of the at most two Frames that are appended with it. -/
def Obligations.CounterCountsTelemetry : Prop :=
  ∀ (i : Instr) (s t : State), exec i s = .next t → i ≠ .reset →
    t.counter = s.counter ∨
    (t.counter = s.counter + 1 ∧ (i = .streamTelemetry ∨ ∃ tr, i = .devPoll tr) ∧
      ∃ mid : List Bytes, mid.length ≤ 1 ∧ t.d2h = s.d2h ++ mid ++ [telemetryFrame s])

/-- 10_state.md sections 1 and 6: no operation writes the parameters, none but reset writes a
configuration register, and none but the CRC operations and reset writes `CRC.ACC`. That none writes
a request still waiting, `RESET` included, is the model's own choice, since the command port is
(log 2, log 19), and so is that the parameters stand in State (log 10). -/
def Obligations.ConfigurationIsReadOnly : Prop :=
  ∀ (i : Instr) (s t : State), exec i s = .next t →
    t.params = s.params ∧ t.pending = s.pending ∧ (i ≠ .reset → t.cfg = s.cfg) ∧
    (i ≠ .reset → i ≠ .crcInit → (∀ b, i ≠ .crcUpdate b) → (∀ c, i ≠ .crcChecksum c) →
      t.acc = s.acc ∧ t.accReady = s.accReady)

/-- 10_state.md section 7: a result is an output; no operation and no step reads the result port or
the host event port. -/
def Obligations.ResultsAreNeverRead : Prop :=
  ∀ (i : Instr) (s : State) (o : Option Result) (e : Option HostEvent),
    exec i { s with out := o, event := e } = exec i s ∧
    step { s with out := o, event := e } = step s

/-- 20_memory.md section 6: the codec operations always answer, change only the output ports, and
their answer depends on nothing of the state but `CFG.LEN_ORDER`. -/
def Obligations.CodecsArePure : Prop :=
  ∀ (i : Instr) (s s' : State), IsCodecOperation i → s.cfg.lenOrder = s'.cfg.lenOrder →
    ∃ r : Result, exec i s = .next (drives s r) ∧ exec i s' = .next (drives s' r)

/-- 10_state.md section 5, 60_exceptions.md section 6: the Host's operations neither read nor write
the Device's registers. -/
def Obligations.HostIgnoresDeviceRegisters : Prop :=
  ∀ (i : Instr) (s t : State) (b : Bool) (c : Word32), IsHostOperation i → exec i s = .next t →
    exec i { s with streaming := b, counter := c } = .next { t with streaming := b, counter := c } ∧
    t.streaming = s.streaming ∧ t.counter = s.counter

/-- 20_memory.md section 5 (decision D18): but for reset, an operation leaves a channel alone, takes
its head, or appends Frames that decode to its tail. Each direction has one writer and one reader:
the Host's operations append to the Host-to-Device channel, one Frame, and the Device's take from it;
the Device's operations append to the other channel, one Frame but for `DEV.POLL`, which may append
two, and the Host's take from it. -/
def Obligations.ChannelsAreFifo : Prop :=
  ∀ (i : Instr) (s t : State), exec i s = .next t → i ≠ .reset →
    (t.h2d = s.h2d ∨
      ((∃ tr, i = .linkRx .device tr ∨ i = .devPoll tr) ∧ ∃ w, s.h2d = w :: t.h2d) ∨
      ((∃ m, i = .linkTx .host m) ∨ (∃ id data, i = .hostSendCommand id data)) ∧
        ∃ w, t.h2d = s.h2d ++ [w] ∧ FrameOnWire w) ∧
    (((∃ tr, i = .linkRx .host tr ∨ i = .hostPoll tr) ∧ ∃ w, s.d2h = w :: t.d2h) ∨
      ∃ ws : List Bytes, t.d2h = s.d2h ++ ws ∧ (∀ w ∈ ws, FrameOnWire w) ∧
        (ws = [] ∨ DeviceSends i) ∧
        (ws.length ≤ 1 ∨ (ws.length = 2 ∧ ∃ tr, i = .devPoll tr)))
end

