-- ==== Sys2Proof/Laws/State.lean ====
section
/-! SUPPORT. One lemma per field per update of State, so that no proof unfolds a record update. -/

namespace Sys2Proof.Machine

@[simp] theorem State.reportOk_streaming (v : Value) (s : State) : (s.reportOk v).streaming = s.streaming := rfl
@[simp] theorem State.reportOk_counter (v : Value) (s : State) : (s.reportOk v).counter = s.counter := rfl
@[simp] theorem State.reportOk_cfg (v : Value) (s : State) : (s.reportOk v).cfg = s.cfg := rfl
@[simp] theorem State.reportOk_acc (v : Value) (s : State) : (s.reportOk v).acc = s.acc := rfl
@[simp] theorem State.reportOk_accReady (v : Value) (s : State) : (s.reportOk v).accReady = s.accReady := rfl
@[simp] theorem State.reportOk_h2d (v : Value) (s : State) : (s.reportOk v).h2d = s.h2d := rfl
@[simp] theorem State.reportOk_d2h (v : Value) (s : State) : (s.reportOk v).d2h = s.d2h := rfl
@[simp] theorem State.reportOk_params (v : Value) (s : State) : (s.reportOk v).params = s.params := rfl
@[simp] theorem State.reportOk_pending (v : Value) (s : State) : (s.reportOk v).pending = s.pending := rfl
@[simp] theorem State.reportOk_out (v : Value) (s : State) : (s.reportOk v).out = some (.ok v) := rfl
@[simp] theorem State.reportOk_event (v : Value) (s : State) : (s.reportOk v).event = none := rfl

@[simp] theorem State.reportError_streaming (e : BlockError) (s : State) : (s.reportError e).streaming = s.streaming := rfl
@[simp] theorem State.reportError_counter (e : BlockError) (s : State) : (s.reportError e).counter = s.counter := rfl
@[simp] theorem State.reportError_cfg (e : BlockError) (s : State) : (s.reportError e).cfg = s.cfg := rfl
@[simp] theorem State.reportError_acc (e : BlockError) (s : State) : (s.reportError e).acc = s.acc := rfl
@[simp] theorem State.reportError_accReady (e : BlockError) (s : State) : (s.reportError e).accReady = s.accReady := rfl
@[simp] theorem State.reportError_h2d (e : BlockError) (s : State) : (s.reportError e).h2d = s.h2d := rfl
@[simp] theorem State.reportError_d2h (e : BlockError) (s : State) : (s.reportError e).d2h = s.d2h := rfl
@[simp] theorem State.reportError_params (e : BlockError) (s : State) : (s.reportError e).params = s.params := rfl
@[simp] theorem State.reportError_pending (e : BlockError) (s : State) : (s.reportError e).pending = s.pending := rfl
@[simp] theorem State.reportError_out (e : BlockError) (s : State) : (s.reportError e).out = some (.err e) := rfl
@[simp] theorem State.reportError_event (e : BlockError) (s : State) : (s.reportError e).event = none := rfl

@[simp] theorem State.reportEvent_streaming (e : Option HostEvent) (s : State) : (s.reportEvent e).streaming = s.streaming := rfl
@[simp] theorem State.reportEvent_counter (e : Option HostEvent) (s : State) : (s.reportEvent e).counter = s.counter := rfl
@[simp] theorem State.reportEvent_cfg (e : Option HostEvent) (s : State) : (s.reportEvent e).cfg = s.cfg := rfl
@[simp] theorem State.reportEvent_acc (e : Option HostEvent) (s : State) : (s.reportEvent e).acc = s.acc := rfl
@[simp] theorem State.reportEvent_accReady (e : Option HostEvent) (s : State) : (s.reportEvent e).accReady = s.accReady := rfl
@[simp] theorem State.reportEvent_h2d (e : Option HostEvent) (s : State) : (s.reportEvent e).h2d = s.h2d := rfl
@[simp] theorem State.reportEvent_d2h (e : Option HostEvent) (s : State) : (s.reportEvent e).d2h = s.d2h := rfl
@[simp] theorem State.reportEvent_params (e : Option HostEvent) (s : State) : (s.reportEvent e).params = s.params := rfl
@[simp] theorem State.reportEvent_pending (e : Option HostEvent) (s : State) : (s.reportEvent e).pending = s.pending := rfl
@[simp] theorem State.reportEvent_out (e : Option HostEvent) (s : State) : (s.reportEvent e).out = some (.ok (.event e)) := rfl
@[simp] theorem State.reportEvent_event (e : Option HostEvent) (s : State) : (s.reportEvent e).event = e := rfl

@[simp] theorem State.setStreaming_streaming (b : Bool) (s : State) : (s.setStreaming b).streaming = b := rfl
@[simp] theorem State.setStreaming_counter (b : Bool) (s : State) : (s.setStreaming b).counter = s.counter := rfl
@[simp] theorem State.setStreaming_cfg (b : Bool) (s : State) : (s.setStreaming b).cfg = s.cfg := rfl
@[simp] theorem State.setStreaming_acc (b : Bool) (s : State) : (s.setStreaming b).acc = s.acc := rfl
@[simp] theorem State.setStreaming_accReady (b : Bool) (s : State) : (s.setStreaming b).accReady = s.accReady := rfl
@[simp] theorem State.setStreaming_h2d (b : Bool) (s : State) : (s.setStreaming b).h2d = s.h2d := rfl
@[simp] theorem State.setStreaming_d2h (b : Bool) (s : State) : (s.setStreaming b).d2h = s.d2h := rfl
@[simp] theorem State.setStreaming_params (b : Bool) (s : State) : (s.setStreaming b).params = s.params := rfl
@[simp] theorem State.setStreaming_pending (b : Bool) (s : State) : (s.setStreaming b).pending = s.pending := rfl
@[simp] theorem State.setStreaming_out (b : Bool) (s : State) : (s.setStreaming b).out = s.out := rfl
@[simp] theorem State.setStreaming_event (b : Bool) (s : State) : (s.setStreaming b).event = s.event := rfl

@[simp] theorem State.bumpCounter_streaming (s : State) : (s.bumpCounter).streaming = s.streaming := rfl
@[simp] theorem State.bumpCounter_counter (s : State) : (s.bumpCounter).counter = s.counter + 1 := rfl
@[simp] theorem State.bumpCounter_cfg (s : State) : (s.bumpCounter).cfg = s.cfg := rfl
@[simp] theorem State.bumpCounter_acc (s : State) : (s.bumpCounter).acc = s.acc := rfl
@[simp] theorem State.bumpCounter_accReady (s : State) : (s.bumpCounter).accReady = s.accReady := rfl
@[simp] theorem State.bumpCounter_h2d (s : State) : (s.bumpCounter).h2d = s.h2d := rfl
@[simp] theorem State.bumpCounter_d2h (s : State) : (s.bumpCounter).d2h = s.d2h := rfl
@[simp] theorem State.bumpCounter_params (s : State) : (s.bumpCounter).params = s.params := rfl
@[simp] theorem State.bumpCounter_pending (s : State) : (s.bumpCounter).pending = s.pending := rfl
@[simp] theorem State.bumpCounter_out (s : State) : (s.bumpCounter).out = s.out := rfl
@[simp] theorem State.bumpCounter_event (s : State) : (s.bumpCounter).event = s.event := rfl

@[simp] theorem State.setAcc_streaming (v : Word32) (s : State) : (s.setAcc v).streaming = s.streaming := rfl
@[simp] theorem State.setAcc_counter (v : Word32) (s : State) : (s.setAcc v).counter = s.counter := rfl
@[simp] theorem State.setAcc_cfg (v : Word32) (s : State) : (s.setAcc v).cfg = s.cfg := rfl
@[simp] theorem State.setAcc_acc (v : Word32) (s : State) : (s.setAcc v).acc = v := rfl
@[simp] theorem State.setAcc_accReady (v : Word32) (s : State) : (s.setAcc v).accReady = true := rfl
@[simp] theorem State.setAcc_h2d (v : Word32) (s : State) : (s.setAcc v).h2d = s.h2d := rfl
@[simp] theorem State.setAcc_d2h (v : Word32) (s : State) : (s.setAcc v).d2h = s.d2h := rfl
@[simp] theorem State.setAcc_params (v : Word32) (s : State) : (s.setAcc v).params = s.params := rfl
@[simp] theorem State.setAcc_pending (v : Word32) (s : State) : (s.setAcc v).pending = s.pending := rfl
@[simp] theorem State.setAcc_out (v : Word32) (s : State) : (s.setAcc v).out = s.out := rfl
@[simp] theorem State.setAcc_event (v : Word32) (s : State) : (s.setAcc v).event = s.event := rfl

@[simp] theorem State.present_streaming (r : Request) (s : State) : (s.present r).streaming = s.streaming := rfl
@[simp] theorem State.present_counter (r : Request) (s : State) : (s.present r).counter = s.counter := rfl
@[simp] theorem State.present_cfg (r : Request) (s : State) : (s.present r).cfg = s.cfg := rfl
@[simp] theorem State.present_acc (r : Request) (s : State) : (s.present r).acc = s.acc := rfl
@[simp] theorem State.present_accReady (r : Request) (s : State) : (s.present r).accReady = s.accReady := rfl
@[simp] theorem State.present_h2d (r : Request) (s : State) : (s.present r).h2d = s.h2d := rfl
@[simp] theorem State.present_d2h (r : Request) (s : State) : (s.present r).d2h = s.d2h := rfl
@[simp] theorem State.present_params (r : Request) (s : State) : (s.present r).params = s.params := rfl
@[simp] theorem State.present_pending (r : Request) (s : State) : (s.present r).pending = r :: s.pending := rfl
@[simp] theorem State.present_out (r : Request) (s : State) : (s.present r).out = s.out := rfl
@[simp] theorem State.present_event (r : Request) (s : State) : (s.present r).event = s.event := rfl

@[simp] theorem State.transmit_streaming (r : Role) (w : Bytes) (s : State) :
    (s.transmit r w).streaming = s.streaming := by cases r <;> rfl
@[simp] theorem State.setIncoming_streaming (r : Role) (q : List Bytes) (s : State) :
    (s.setIncoming r q).streaming = s.streaming := by cases r <;> rfl
@[simp] theorem State.transmit_counter (r : Role) (w : Bytes) (s : State) :
    (s.transmit r w).counter = s.counter := by cases r <;> rfl
@[simp] theorem State.setIncoming_counter (r : Role) (q : List Bytes) (s : State) :
    (s.setIncoming r q).counter = s.counter := by cases r <;> rfl
@[simp] theorem State.transmit_cfg (r : Role) (w : Bytes) (s : State) :
    (s.transmit r w).cfg = s.cfg := by cases r <;> rfl
@[simp] theorem State.setIncoming_cfg (r : Role) (q : List Bytes) (s : State) :
    (s.setIncoming r q).cfg = s.cfg := by cases r <;> rfl
@[simp] theorem State.transmit_acc (r : Role) (w : Bytes) (s : State) :
    (s.transmit r w).acc = s.acc := by cases r <;> rfl
@[simp] theorem State.setIncoming_acc (r : Role) (q : List Bytes) (s : State) :
    (s.setIncoming r q).acc = s.acc := by cases r <;> rfl
@[simp] theorem State.transmit_accReady (r : Role) (w : Bytes) (s : State) :
    (s.transmit r w).accReady = s.accReady := by cases r <;> rfl
@[simp] theorem State.setIncoming_accReady (r : Role) (q : List Bytes) (s : State) :
    (s.setIncoming r q).accReady = s.accReady := by cases r <;> rfl
@[simp] theorem State.transmit_params (r : Role) (w : Bytes) (s : State) :
    (s.transmit r w).params = s.params := by cases r <;> rfl
@[simp] theorem State.setIncoming_params (r : Role) (q : List Bytes) (s : State) :
    (s.setIncoming r q).params = s.params := by cases r <;> rfl
@[simp] theorem State.transmit_pending (r : Role) (w : Bytes) (s : State) :
    (s.transmit r w).pending = s.pending := by cases r <;> rfl
@[simp] theorem State.setIncoming_pending (r : Role) (q : List Bytes) (s : State) :
    (s.setIncoming r q).pending = s.pending := by cases r <;> rfl
@[simp] theorem State.transmit_out (r : Role) (w : Bytes) (s : State) :
    (s.transmit r w).out = s.out := by cases r <;> rfl
@[simp] theorem State.setIncoming_out (r : Role) (q : List Bytes) (s : State) :
    (s.setIncoming r q).out = s.out := by cases r <;> rfl
@[simp] theorem State.transmit_event (r : Role) (w : Bytes) (s : State) :
    (s.transmit r w).event = s.event := by cases r <;> rfl
@[simp] theorem State.setIncoming_event (r : Role) (q : List Bytes) (s : State) :
    (s.setIncoming r q).event = s.event := by cases r <;> rfl
@[simp] theorem State.transmit_host_h2d (w : Bytes) (s : State) :
    (s.transmit .host w).h2d = s.h2d ++ [w] := rfl
@[simp] theorem State.transmit_host_d2h (w : Bytes) (s : State) :
    (s.transmit .host w).d2h = s.d2h := rfl
@[simp] theorem State.setIncoming_host_d2h (q : List Bytes) (s : State) :
    (s.setIncoming .host q).d2h = q := rfl
@[simp] theorem State.setIncoming_host_h2d (q : List Bytes) (s : State) :
    (s.setIncoming .host q).h2d = s.h2d := rfl
@[simp] theorem State.incoming_host (s : State) : s.incoming .host = s.d2h := rfl
@[simp] theorem State.transmit_device_d2h (w : Bytes) (s : State) :
    (s.transmit .device w).d2h = s.d2h ++ [w] := rfl
@[simp] theorem State.transmit_device_h2d (w : Bytes) (s : State) :
    (s.transmit .device w).h2d = s.h2d := rfl
@[simp] theorem State.setIncoming_device_h2d (q : List Bytes) (s : State) :
    (s.setIncoming .device q).h2d = q := rfl
@[simp] theorem State.setIncoming_device_d2h (q : List Bytes) (s : State) :
    (s.setIncoming .device q).d2h = s.d2h := rfl
@[simp] theorem State.incoming_device (s : State) : s.incoming .device = s.h2d := rfl

@[simp] theorem State.report_ok {α : Type} (value : α → Value) (a : α) (s : State) :
    s.report value (.ok a) = s.reportOk (value a) := rfl

@[simp] theorem State.report_error {α : Type} (value : α → Value) (e : BlockError) (s : State) :
    s.report value (.error e) = s.reportError e := rfl

/-- Whatever a report says, it writes the two output ports alone. -/
theorem State.report_frame {α : Type} (value : α → Value) (r : Except BlockError α) (s : State) :
    s.report value r = { s with out := (s.report value r).out, event := none } := by
  cases r <;> rfl

end Sys2Proof.Machine
end

