-- ==== Sys2Proof/Laws/Codec.lean ====
section
/-! SUPPORT. Lemmas about byte order, lengths, slices, the CRC engine over appended byte strings,
and the header word. -/

namespace Sys2Proof.Machine

/-! ### Lengths -/

@[simp] theorem addrBytes_length (a : Address) : (addrBytes a).length = 6 := rfl
@[simp] theorem be16_length (v : Word16) : (be16 v).length = 2 := rfl
@[simp] theorem le16_length (v : Word16) : (le16 v).length = 2 := rfl
@[simp] theorem le32_length (v : Word32) : (le32 v).length = 4 := rfl
@[simp] theorem zeros_length (n : Nat) : (zeros n).length = n := List.length_replicate
@[simp] theorem pongData_length : pongData.length = 4 := rfl
@[simp] theorem okData_length : okData.length = 2 := rfl

@[simp] theorem len16_length (order : LenOrder) (v : Word16) : (len16 order v).length = 2 := by
  cases order <;> rfl

@[simp] theorem frameEncode_length (f : Frame) :
    (frameEncode f).length = f.payload.length + 18 := by
  simp [frameEncode]; omega

/-! ### Bytes and slices of appended buffers -/

theorem byteAt_append_left {a b : Bytes} {i : Nat} (h : i < a.length) :
    byteAt (a ++ b) i = byteAt a i := by
  simp [byteAt, List.getD_eq_getElem?_getD, List.getElem?_append_left h]

theorem byteAt_append_right {a b : Bytes} {i : Nat} (h : a.length ≤ i) :
    byteAt (a ++ b) i = byteAt b (i - a.length) := by
  simp [byteAt, List.getD_eq_getElem?_getD, List.getElem?_append_right h]

theorem slice_append_mid (a b c : Bytes) :
    slice (a ++ b ++ c) a.length (a.length + b.length) = b := by
  simp [slice, List.append_assoc]

theorem slice_append_right (a b : Bytes) :
    slice (a ++ b) a.length (a ++ b).length = b := by
  simp [slice]

/-! ### Byte order -/

theorem word16_join (v : Word16) : v.extractLsb' 8 8 ++ v.extractLsb' 0 8 = v := by
  ext i hi
  simp only [BitVec.getElem_append, BitVec.getElem_extractLsb']
  split
  · simp [BitVec.getLsbD_eq_getElem hi]
  · rename_i h
    rw [show 8 + (i - 8) = i by omega, BitVec.getLsbD_eq_getElem hi]

theorem word32_join (v : Word32) :
    v.extractLsb' 24 8 ++ v.extractLsb' 16 8 ++ v.extractLsb' 8 8 ++ v.extractLsb' 0 8 = v := by
  ext i hi
  simp only [BitVec.getElem_append, BitVec.getElem_extractLsb']
  repeat' split
  · simp [BitVec.getLsbD_eq_getElem hi]
  · rw [show 8 + (i - 8) = i by omega, BitVec.getLsbD_eq_getElem hi]
  · rw [show 16 + (i - 8 - 8) = i by omega, BitVec.getLsbD_eq_getElem hi]
  · rw [show 24 + (i - 8 - 8 - 8) = i by omega, BitVec.getLsbD_eq_getElem hi]

theorem be16_bytes (v : Word16) : byteAt (be16 v) 0 ++ byteAt (be16 v) 1 = v := word16_join v

theorem le32_bytes (v : Word32) :
    byteAt (le32 v) 3 ++ byteAt (le32 v) 2 ++ byteAt (le32 v) 1 ++ byteAt (le32 v) 0 = v :=
  word32_join v

/-- The length field read back in the order it was written (R49). -/
theorem len16_bytes (order : LenOrder) (v : Word16) : len16At order (len16 order v) 0 = v := by
  cases order <;> exact word16_join v

/-! ### The header word (R64) -/

@[simp] theorem wordKind_headerWord (k i : Byte) : wordKind (headerWord k i) = k := by
  ext j hj
  simp only [wordKind, headerWord, BitVec.getElem_extractLsb', BitVec.getLsbD_append]
  rw [if_neg (by omega), show 8 + j - 8 = j by omega, BitVec.getLsbD_eq_getElem hj]

@[simp] theorem wordIdentifier_headerWord (k i : Byte) : wordIdentifier (headerWord k i) = i := by
  ext j hj
  simp only [wordIdentifier, headerWord, BitVec.getElem_extractLsb', BitVec.getLsbD_append]
  rw [if_pos (by omega), show 0 + j = j by omega, BitVec.getLsbD_eq_getElem hj]

theorem headerWord_inj {k i k' i' : Byte} :
    headerWord k i = headerWord k' i' ↔ k = k' ∧ i = i' := by
  constructor
  · intro h
    exact ⟨by rw [← wordKind_headerWord k i, h, wordKind_headerWord],
      by rw [← wordIdentifier_headerWord k i, h, wordIdentifier_headerWord]⟩
  · rintro ⟨rfl, rfl⟩; rfl

/-- A row with a full mask takes exactly its own word. -/
theorem rowHits_full (k' i' k i : Byte) :
    rowHits (headerWord k' i') 0xFFFF (headerWord k i) = decide (k = k' ∧ i = i') := by
  rw [rowHits, show (0xFFFF : Word16) = BitVec.allOnes 16 from rfl, BitVec.and_allOnes,
    Bool.eq_iff_iff]
  simp [headerWord_inj]

/-- A row whose mask covers byte 0 takes every word of its kind. -/
theorem rowHits_kind (k' k i : Byte) :
    rowHits (headerWord k' 0) 0xFF00 (headerWord k i) = decide (k = k') := by
  have h : headerWord k i &&& 0xFF00 = headerWord k 0 := by
    apply BitVec.eq_of_getLsbD_eq
    intro j hj
    rw [show (0xFF00 : Word16) = BitVec.allOnes 8 ++ (0 : Byte) from by decide, BitVec.getLsbD_and,
      headerWord, headerWord, BitVec.getLsbD_append, BitVec.getLsbD_append, BitVec.getLsbD_append,
      BitVec.getLsbD_allOnes]
    by_cases h8 : j < 8
    · simp [h8]
    · simp [h8, show j - 8 < 8 by omega]
  rw [rowHits, h, Bool.eq_iff_iff]
  simp [headerWord_inj]

/-- What the Device's rows select, by kind and identifier (R107). -/
theorem devHeader_headerWord (k i : Byte) :
    devHeader (headerWord k i) =
      if k = 0x01 then
        if i = 0x01 then .ping
        else if i = 0x02 then .startStream
        else if i = 0x03 then .stopStream
        else .unknownCommand i
      else .notCommand k i := by
  have h1 := rowHits_full 0x01 0x01 k i
  have h2 := rowHits_full 0x01 0x02 k i
  have h3 := rowHits_full 0x01 0x03 k i
  have h4 := rowHits_kind 0x01 k i
  rw [show headerWord 0x01 0x01 = 0x0101 from rfl] at h1
  rw [show headerWord 0x01 0x02 = 0x0102 from rfl] at h2
  rw [show headerWord 0x01 0x03 = 0x0103 from rfl] at h3
  rw [show headerWord 0x01 0 = 0x0100 from rfl] at h4
  simp only [devHeader, h1, h2, h3, h4, decide_eq_true_eq, wordKind_headerWord,
    wordIdentifier_headerWord]
  by_cases hk : k = 1#8 <;> simp [hk]

/-- What the Host's rows select, by kind (R115). -/
theorem hostHeader_headerWord (k i : Byte) :
    hostHeader (headerWord k i) =
      if k = 0x02 then .response i
      else if k = 0x03 then .stream i
      else if k = 0x04 then .error i
      else .reject k i := by
  have h2 := rowHits_kind 0x02 k i
  have h3 := rowHits_kind 0x03 k i
  have h4 := rowHits_kind 0x04 k i
  rw [show headerWord 0x02 0 = 0x0200 from rfl] at h2
  rw [show headerWord 0x03 0 = 0x0300 from rfl] at h3
  rw [show headerWord 0x04 0 = 0x0400 from rfl] at h4
  simp only [hostHeader, h2, h3, h4, decide_eq_true_eq, wordKind_headerWord,
    wordIdentifier_headerWord]

/-! ### The CRC engine over appended byte strings -/

theorem crcRun_append (acc : Word32) (a b : Bytes) :
    crcRun acc (a ++ b) = crcRun (crcRun acc a) b := List.foldl_append

theorem crcRunChunks_cons (acc : Word32) (c : Bytes) (cs : List Bytes) :
    crcRunChunks acc (c :: cs) = crcRunChunks (crcRun acc c) cs := rfl

theorem crcRunChunks_nil (acc : Word32) : crcRunChunks acc [] = acc := rfl

theorem crcShifts_succ (n : Nat) (c : Word32) : crcShifts (n + 1) c = crcShifts n (crcShift c) :=
  rfl

end Sys2Proof.Machine
end

