-- ==== Sys2Proof/Laws/Ops.lean ====
section
/-! SUPPORT. What each shared operation can do, said once: the codecs, the link adapter, the Device's
handlers and emission. Later proofs cite these instead of unfolding the operations. -/

namespace Sys2Proof.Machine

/-! ### The frame codec -/

theorem payloadInBounds_iff (p : Bytes) :
    payloadInBounds p = true ↔ 46 ≤ p.length ∧ p.length ≤ 1500 := by
  simp [payloadInBounds]

theorem frameNew_inBounds (dst src : Address) (ty : Word16) {p : Bytes}
    (h : 46 ≤ p.length ∧ p.length ≤ 1500) :
    frameNew dst src ty p = .ok ⟨dst, src, ty, p, frameCrc dst src ty p⟩ := by
  simp [frameNew, (payloadInBounds_iff p).2 h]

theorem frameNew_outOfBounds (dst src : Address) (ty : Word16) {p : Bytes}
    (h : ¬(46 ≤ p.length ∧ p.length ≤ 1500)) :
    frameNew dst src ty p = .error (.payloadOutOfBounds p.length) := by
  simp [frameNew, (payloadInBounds_iff p).not.2 h]

/-- Everything `FRAME.NEW` can do. -/
theorem frameNew_cases (dst src : Address) (ty : Word16) (p : Bytes) :
    (46 ≤ p.length ∧ p.length ≤ 1500 ∧
        frameNew dst src ty p = .ok ⟨dst, src, ty, p, frameCrc dst src ty p⟩) ∨
      (¬(46 ≤ p.length ∧ p.length ≤ 1500) ∧
        frameNew dst src ty p = .error (.payloadOutOfBounds p.length)) := by
  by_cases h : 46 ≤ p.length ∧ p.length ≤ 1500
  · exact .inl ⟨h.1, h.2, frameNew_inBounds dst src ty h⟩
  · exact .inr ⟨h, frameNew_outOfBounds dst src ty h⟩

theorem frameSetPayload_inBounds (f : Frame) (suppress : Bool) {p : Bytes}
    (h : 46 ≤ p.length ∧ p.length ≤ 1500) :
    frameSetPayload f p suppress = .ok { f with
      payload := p
      checksum := if suppress then f.checksum
        else frameCrc f.destination f.source f.typeTag p } := by
  simp [frameSetPayload, (payloadInBounds_iff p).2 h]

theorem frameSetPayload_outOfBounds (f : Frame) (suppress : Bool) {p : Bytes}
    (h : ¬(46 ≤ p.length ∧ p.length ≤ 1500)) :
    frameSetPayload f p suppress = .error (.payloadOutOfBounds p.length) := by
  simp [frameSetPayload, (payloadInBounds_iff p).not.2 h]

theorem frameValid_iff (f : Frame) :
    frameValid f = true ↔ f.checksum = frameCrc f.destination f.source f.typeTag f.payload := by
  simp [frameValid]

theorem byteAt_skip (a b : Bytes) (i : Nat) : byteAt (a ++ b) (a.length + i) = byteAt b i := by
  rw [byteAt_append_right (Nat.le_add_right _ _), Nat.add_sub_cancel_left]

theorem addrAt_skip (a : Bytes) (x : Address) (rest : Bytes) :
    addrAt (a ++ (addrBytes x ++ rest)) a.length = x := by
  have h0 := byteAt_skip a (addrBytes x ++ rest) 0
  rw [Nat.add_zero] at h0
  simp only [addrAt, byteAt_skip, h0]
  rfl

theorem be16At_skip (a : Bytes) (v : Word16) (rest : Bytes) :
    be16At (a ++ (be16 v ++ rest)) a.length = v := by
  have h0 := byteAt_skip a (be16 v ++ rest) 0
  rw [Nat.add_zero] at h0
  rw [be16At, byteAt_skip, h0]
  exact word16_join v

theorem le32At_skip (b : Bytes) (v : Word32) : le32At (b ++ le32 v) b.length = v := by
  have h0 := byteAt_skip b (le32 v) 0
  rw [Nat.add_zero] at h0
  simp only [le32At, byteAt_skip, h0]
  exact word32_join v

/-- The fields of an encoded Frame are the Frame's (R35, R46). -/
theorem frameFields_frameEncode (f : Frame) : frameFields (frameEncode f) = f := by
  have hd := addrAt_skip [] f.destination
    (addrBytes f.source ++ (be16 f.typeTag ++ (f.payload ++ le32 f.checksum)))
  have hs := addrAt_skip (addrBytes f.destination) f.source
    (be16 f.typeTag ++ (f.payload ++ le32 f.checksum))
  have ht := be16At_skip (addrBytes f.destination ++ addrBytes f.source) f.typeTag
    (f.payload ++ le32 f.checksum)
  have hp := slice_append_mid (addrBytes f.destination ++ addrBytes f.source ++ be16 f.typeTag)
    f.payload (le32 f.checksum)
  have hc := le32At_skip (addrBytes f.destination ++ addrBytes f.source ++ be16 f.typeTag ++
    f.payload) f.checksum
  have hl : (frameEncode f).length - 4 = 14 + f.payload.length := by simp; omega
  simp only [List.nil_append, List.append_assoc, List.length_nil, List.length_append,
    addrBytes_length, be16_length, Nat.reduceAdd] at hd hs ht hp hc
  simp only [← Nat.add_assoc, Nat.reduceAdd] at hc
  simp only [frameFields, hl]
  simp only [frameEncode, List.append_assoc, hd, hs, ht, hp, hc]

/-- Everything `FRAME.DECODE` can do, in the order of its checks (R79, R125). -/
theorem frameDecode_cases (w : Bytes) :
    (w.length < 64 ∧ frameDecode w = .error (.frameTooShort w.length)) ∨
      (1518 < w.length ∧ frameDecode w = .error (.frameTooLong w.length)) ∨
      (64 ≤ w.length ∧ w.length ≤ 1518 ∧ frameValid (frameFields w) = false ∧
        frameDecode w = .error .checksumMismatch) ∨
      (64 ≤ w.length ∧ w.length ≤ 1518 ∧ frameValid (frameFields w) = true ∧
        frameDecode w = .ok (frameFields w)) := by
  unfold frameDecode
  by_cases h1 : w.length < frameMin
  · exact .inl ⟨h1, if_pos h1⟩
  by_cases h2 : frameMax < w.length
  · exact .inr (.inl ⟨h2, by rw [if_neg h1, if_pos h2]⟩)
  rw [if_neg h1, if_neg h2]
  have h1' : 64 ≤ w.length := Nat.le_of_not_lt h1
  have h2' : w.length ≤ 1518 := Nat.le_of_not_lt h2
  cases hv : frameValid (frameFields w)
  · exact .inr (.inr (.inl ⟨h1', h2', rfl, by simp⟩))
  · exact .inr (.inr (.inr ⟨h1', h2', rfl, by simp⟩))

theorem frameFields_payload_length {w : Bytes} (h : 18 ≤ w.length) :
    (frameFields w).payload.length = w.length - 18 := by
  simp [frameFields, slice]; omega

/-- What a decoded Frame is (R79). -/
theorem frameDecode_ok {w : Bytes} {f : Frame} (h : frameDecode w = .ok f) :
    64 ≤ w.length ∧ w.length ≤ 1518 ∧ frameValid f = true ∧ f = frameFields w ∧
      46 ≤ f.payload.length ∧ f.payload.length ≤ 1500 := by
  obtain ⟨-, h'⟩ | ⟨-, h'⟩ | ⟨-, -, -, h'⟩ | ⟨h1, h2, hv, h'⟩ := frameDecode_cases w <;>
    rw [h'] at h <;> cases h
  have := frameFields_payload_length (w := w) (by omega)
  exact ⟨h1, h2, hv, rfl, by omega, by omega⟩

/-! ### The message codec -/

theorem packedMessage_length (order : LenOrder) (k i : Byte) (data : Bytes) :
    (packedMessage order k i data).length = max 46 (4 + data.length) := by
  simp [packedMessage]; omega

theorem msgPack_fits (order : LenOrder) (k i : Byte) {data : Bytes} (h : data.length ≤ 65535) :
    msgPack order k i data = .ok (packedMessage order k i data) := by
  simp [msgPack, packedMessage, Nat.not_lt.2 h, msgMinLen, msgHdrLen]

theorem msgPack_tooLarge (order : LenOrder) (k i : Byte) {data : Bytes} (h : 65535 < data.length) :
    msgPack order k i data = .error (.dataTooLarge data.length) := by
  simp [msgPack, h]

/-- Everything `MSG.UNPACK` can do, in the order of its checks (R93, R125). -/
theorem msgUnpack_cases (order : LenOrder) (p : Bytes) :
    (p.length < 4 ∧ msgUnpack order p = .error (.msgTooShort p.length)) ∨
      (4 ≤ p.length ∧ p.length - 4 < (len16At order p 2).toNat ∧
        msgUnpack order p = .error (.lengthExceedsBuffer (len16At order p 2).toNat p.length)) ∨
      (4 ≤ p.length ∧ (len16At order p 2).toNat ≤ p.length - 4 ∧
        msgUnpack order p = .ok ⟨byteAt p 0, byteAt p 1, len16At order p 2,
          slice p (p.length - (len16At order p 2).toNat) p.length⟩) := by
  unfold msgUnpack
  by_cases h1 : p.length < msgHdrLen
  · exact .inl ⟨h1, if_pos h1⟩
  rw [if_neg h1]
  have h1' : 4 ≤ p.length := Nat.le_of_not_lt h1
  by_cases h2 : p.length - msgHdrLen < (len16At order p 2).toNat
  · exact .inr (.inl ⟨h1', h2, by simp only [if_pos h2]⟩)
  · exact .inr (.inr ⟨h1', Nat.le_of_not_lt h2, by simp only [if_neg h2]⟩)

/-! ### The link adapter -/

theorem linkTx_inBounds (role : Role) {m : Bytes} (s : State)
    (h : 46 ≤ m.length ∧ m.length ≤ 1500) :
    linkTx role m s = .ok (s.transmit role (carriedFrame s.cfg role m)) := by
  simp [linkTx, linkFrame, frameNew_inBounds _ _ _ h, carriedFrame]

theorem linkTx_outOfBounds (role : Role) {m : Bytes} (s : State)
    (h : ¬(46 ≤ m.length ∧ m.length ≤ 1500)) :
    linkTx role m s = .error (.payloadOutOfBounds m.length) := by
  simp [linkTx, linkFrame, frameNew_outOfBounds _ _ _ h]

/-- What the default `CORRUPT` holds (R9). -/
theorem corruptAllows_identityOnly (t : Transform) (w : Bytes) :
    corruptAllows .identityOnly t w = true ↔ t = .identity := by
  cases t <;> simp [corruptAllows, classHolds]

/-- What the fault-testing set holds for a Frame (R104). -/
theorem corruptAllows_faultTesting (t : Transform) (w : Bytes) :
    corruptAllows .faultTesting t w = true ↔ ¬OutsideFaultTesting t w := by
  cases t <;> simp [corruptAllows, classHolds, OutsideFaultTesting]

/-- A set holds what any of its classes holds. -/
theorem corruptAllows_of_mem {set : CorruptSet} {c : TransformClass} {t : Transform} {w : Bytes}
    (hc : c ∈ set) (h : classHolds c t w = true) : corruptAllows set t w = true :=
  List.any_eq_true.2 ⟨c, hc, h⟩

/-- Everything `LINK.RX` can do (R102). -/
theorem linkRx_cases (role : Role) (t : Transform) (s : State) :
    (s.incoming role = [] ∧ linkRx role t s = .done s (.ok none)) ∨
      (∃ w rest, s.incoming role = w :: rest ∧ corruptAllows s.params.corrupt t w = true ∧
        linkRx role t s =
          .done (s.setIncoming role rest) (linkAccept s.cfg role (applyTransform t w))) ∨
      (∃ w rest, s.incoming role = w :: rest ∧ corruptAllows s.params.corrupt t w = false ∧
        linkRx role t s = .notAllowed) := by
  unfold linkRx
  cases hq : s.incoming role with
  | nil => exact .inl ⟨rfl, rfl⟩
  | cons w rest =>
    cases ha : corruptAllows s.params.corrupt t w
    · exact .inr (.inr ⟨w, rest, rfl, ha, by simp [ha]⟩)
    · exact .inr (.inl ⟨w, rest, rfl, ha, by simp [ha]⟩)

theorem linkRx_empty {role : Role} (t : Transform) {s : State} (h : s.incoming role = []) :
    linkRx role t s = .done s (.ok none) := by simp [linkRx, h]

theorem linkRx_head {role : Role} {t : Transform} {s : State} {w : Bytes} {rest : List Bytes}
    (h : s.incoming role = w :: rest) (ha : corruptAllows s.params.corrupt t w = true) :
    linkRx role t s =
      .done (s.setIncoming role rest) (linkAccept s.cfg role (applyTransform t w)) := by
  simp [linkRx, h, ha]

/-- A Frame under a transform that `CORRUPT` does not hold is not received (R104). -/
theorem linkRx_outside {role : Role} {t : Transform} {s : State} {w : Bytes} {rest : List Bytes}
    (h : s.incoming role = w :: rest) (ha : corruptAllows s.params.corrupt t w = false) :
    linkRx role t s = .notAllowed := by
  simp [linkRx, h, ha]

/-- What a received payload is (R102). -/
theorem linkAccept_some {cfg : Cfg} {role : Role} {w p : Bytes}
    (h : linkAccept cfg role w = .ok (some p)) :
    ∃ f, frameDecode w = .ok f ∧ addrOk cfg role f = true ∧ p = f.payload ∧
      46 ≤ p.length ∧ p.length ≤ 1500 := by
  unfold linkAccept at h
  split at h
  · cases h
  · rename_i f hf
    have hb := frameDecode_ok hf
    by_cases ha : addrOk cfg role f = true
    · rw [if_pos ha] at h
      cases h
      exact ⟨f, hf, ha, rfl, hb.2.2.2.2.1, hb.2.2.2.2.2⟩
    · rw [if_neg ha] at h
      cases h

/-- A Message short enough for one Frame is always sent (R95, R101). -/
theorem sendMessage_fits (role : Role) (k i : Byte) {data : Bytes} (s : State)
    (h : data.length ≤ 1496) :
    sendMessage role k i data s = .ok (s.transmit role (sentFrame s.cfg role k i data)) := by
  have hl := packedMessage_length s.cfg.lenOrder k i data
  rw [sendMessage, msgPack_fits _ _ _ (by omega)]
  exact linkTx_inBounds role s (by omega)

theorem sendMessage_tooLong (role : Role) (k i : Byte) {data : Bytes} (s : State)
    (h1 : 1496 < data.length) (h2 : data.length ≤ 65535) :
    sendMessage role k i data s = .error (.payloadOutOfBounds (4 + data.length)) := by
  have hl : (packedMessage s.cfg.lenOrder k i data).length = 4 + data.length := by
    rw [packedMessage_length]; omega
  rw [sendMessage, msgPack_fits _ _ _ h2, ← hl]
  exact linkTx_outOfBounds role s (by omega)

theorem sendMessage_tooLarge (role : Role) (k i : Byte) {data : Bytes} (s : State)
    (h : 65535 < data.length) :
    sendMessage role k i data s = .error (.dataTooLarge data.length) := by
  rw [sendMessage, msgPack_tooLarge _ _ _ h]

/-! ### The Device's handlers and its stream emission -/

theorem devHandle_ping (s : State) :
    devHandle .ping s = .ok (s.transmit .device (sentFrame s.cfg .device 0x02 0x01 pongData)) :=
  sendMessage_fits .device kindResponse idPing (data := pongData) s (by decide)

theorem devHandle_startStream (s : State) :
    devHandle .startStream s =
      .ok ((s.setStreaming true).transmit .device (sentFrame s.cfg .device 0x02 0x02 okData)) :=
  sendMessage_fits .device kindResponse idStartStream (data := okData) (s.setStreaming true) (by decide)

theorem devHandle_stopStream (s : State) :
    devHandle .stopStream s =
      .ok ((s.setStreaming false).transmit .device (sentFrame s.cfg .device 0x02 0x03 okData)) :=
  sendMessage_fits .device kindResponse idStopStream (data := okData) (s.setStreaming false) (by decide)

theorem devHandle_unknownCommand (id : Byte) (s : State) :
    devHandle (.unknownCommand id) s =
      .ok (s.transmit .device (sentFrame s.cfg .device 0x04 0x01 [])) :=
  sendMessage_fits .device kindError idUnknownCmd (data := []) s (by decide)

theorem devHandle_notCommand (k i : Byte) (s : State) :
    devHandle (.notCommand k i) s = .error (.protocolViolation k) := rfl

/-- The stream emission always succeeds (R107, R112). -/
theorem emitTelemetry_eq (s : State) :
    emitTelemetry s = .ok ((s.transmit .device (telemetryFrame s)).bumpCounter) := by
  have h := sendMessage_fits .device kindStream idTelemetry (data := le32 s.counter) s (by simp)
  simp only [emitTelemetry, h]
  rfl

theorem devStream_eq (s0 : Bool) (s : State) :
    devStream s0 s = .ok (if streamGate s.cfg.streamPhase s0 s.streaming then
      (s.transmit .device (telemetryFrame s)).bumpCounter else s) := by
  unfold devStream
  split <;> simp [emitTelemetry_eq]

end Sys2Proof.Machine
end

