-- ==== Sys2Proof/Laws/PerInstr.lean ====
section
/-! SUPPORT. Statements made for every constructor of Instr: the family `SelectsItsRow` says that the
request an instruction is encoded to carries the group, the match and the mask of the instruction's
row in spec/opcode_table.json. -/

namespace Sys2Proof.Laws

open Machine

/-- One row of spec/opcode_table.json: the group of R64 (with the receiver of a header row), `match`
and `mask`. -/
inductive TableRow
  | op (pattern mask : BitVec 5)
  | header (receiver : Role) (pattern mask : Word16)
  | name (pattern mask : Word16)
  | tag (pattern mask : Word16)

/-- The row of each instruction. -/
def tableRow : Instr → TableRow
  | .reset => .op 0x00 0x1F
  | .crcInit => .op 0x01 0x1F
  | .crcUpdate _ => .op 0x02 0x1F
  | .crcFinal => .op 0x03 0x1F
  | .crcChecksum _ => .op 0x04 0x1F
  | .frameNew _ _ _ _ => .op 0x08 0x1F
  | .frameEncode _ => .op 0x09 0x1F
  | .frameDecode _ => .op 0x0A 0x1F
  | .frameIsValid _ => .op 0x0B 0x1F
  | .frameSetDst _ _ => .op 0x0C 0x1F
  | .frameSetSrc _ _ => .op 0x0D 0x1F
  | .frameSetType _ _ => .op 0x0E 0x1F
  | .frameSetPayload _ _ _ => .op 0x0F 0x1F
  | .msgPack _ _ _ => .op 0x10 0x1F
  | .msgUnpack _ => .op 0x11 0x1F
  | .linkTx _ _ => .op 0x14 0x1F
  | .linkRx _ _ => .op 0x15 0x1F
  | .devPoll _ => .op 0x18 0x1F
  | .hostSendCommand _ _ => .op 0x1C 0x1F
  | .hostPoll _ => .op 0x1D 0x1F
  | .cmdPing _ => .header .device 0x0101 0xFFFF
  | .cmdStartStream _ => .header .device 0x0102 0xFFFF
  | .cmdStopStream _ => .header .device 0x0103 0xFFFF
  | .cmdUnknown _ _ => .header .device 0x0100 0xFF00
  | .devNotCommand _ _ _ => .header .device 0x0000 0x0000
  | .evtResponse _ _ => .header .host 0x0200 0xFF00
  | .evtStream _ _ => .header .host 0x0300 0xFF00
  | .evtError _ _ => .header .host 0x0400 0xFF00
  | .hostReject _ _ _ => .header .host 0x0000 0x0000
  | .responsePing => .name 0x0201 0xFFFF
  | .responseStartStream => .name 0x0202 0xFFFF
  | .responseStopStream => .name 0x0203 0xFFFF
  | .streamTelemetry => .name 0x0301 0xFFFF
  | .errorUnknownCmd => .name 0x0401 0xFFFF
  | .errorBadPayload _ => .name 0x0402 0xFFFF
  | .typeIpv4 => .tag 0x0800 0xFFFF
  | .typeIpv6 => .tag 0x86DD 0xFFFF
  | .typeArp => .tag 0x0806 0xFFFF

/-- The request stands in the row's group and its word meets the row's match under the mask. -/
def MeetsRow : TableRow → Request → Prop
  | .op pattern mask, .op code _ => code &&& mask = pattern
  | .header r pattern mask, .header r' w _ => r = r' ∧ rowHits pattern mask w = true
  | .name pattern mask, .header _ w _ => rowHits pattern mask w = true
  | .tag pattern mask, .tag w => rowHits pattern mask w = true
  | _, _ => False

theorem rowHits_any (w : Word16) : rowHits 0 0 w = true := by simp [rowHits]

namespace SelectsItsRow

/-- The instruction's encoding meets its row, the type tags at their default numbers (R47). -/
def Statement (i : Instr) : Prop := MeetsRow (tableRow i) (encode Params.default i)

theorem reset : Statement .reset := rfl
theorem crcInit : Statement .crcInit := rfl
theorem crcUpdate (x0 : Byte) : Statement (.crcUpdate x0) := rfl
theorem crcFinal : Statement .crcFinal := rfl
theorem crcChecksum (x0 : List Bytes) : Statement (.crcChecksum x0) := rfl
theorem frameNew (x0 : Address) (x1 : Address) (x2 : Word16) (x3 : Bytes) : Statement (.frameNew x0 x1 x2 x3) := rfl
theorem frameEncode (x0 : Frame) : Statement (.frameEncode x0) := rfl
theorem frameDecode (x0 : Bytes) : Statement (.frameDecode x0) := rfl
theorem frameIsValid (x0 : Frame) : Statement (.frameIsValid x0) := rfl
theorem frameSetDst (x0 : Frame) (x1 : Address) : Statement (.frameSetDst x0 x1) := rfl
theorem frameSetSrc (x0 : Frame) (x1 : Address) : Statement (.frameSetSrc x0 x1) := rfl
theorem frameSetType (x0 : Frame) (x1 : Word16) : Statement (.frameSetType x0 x1) := rfl
theorem frameSetPayload (x0 : Frame) (x1 : Bytes) (x2 : Bool) : Statement (.frameSetPayload x0 x1 x2) := rfl
theorem msgPack (x0 : Byte) (x1 : Byte) (x2 : Bytes) : Statement (.msgPack x0 x1 x2) := rfl
theorem msgUnpack (x0 : Bytes) : Statement (.msgUnpack x0) := rfl
theorem linkTx (x0 : Role) (x1 : Bytes) : Statement (.linkTx x0 x1) := rfl
theorem linkRx (x0 : Role) (x1 : Transform) : Statement (.linkRx x0 x1) := rfl
theorem devPoll (x0 : Transform) : Statement (.devPoll x0) := rfl
theorem hostSendCommand (x0 : Byte) (x1 : Bytes) : Statement (.hostSendCommand x0 x1) := rfl
theorem hostPoll (x0 : Transform) : Statement (.hostPoll x0) := rfl
theorem cmdPing (x0 : Bytes) : Statement (.cmdPing x0) := ⟨rfl, rfl⟩
theorem cmdStartStream (x0 : Bytes) : Statement (.cmdStartStream x0) := ⟨rfl, rfl⟩
theorem cmdStopStream (x0 : Bytes) : Statement (.cmdStopStream x0) := ⟨rfl, rfl⟩
theorem cmdUnknown (x0 : Byte) (x1 : Bytes) : Statement (.cmdUnknown x0 x1) := ⟨rfl, (rowHits_kind 0x01 0x01 x0).trans (by decide)⟩
theorem devNotCommand (x0 : Byte) (x1 : Byte) (x2 : Bytes) : Statement (.devNotCommand x0 x1 x2) := ⟨rfl, rowHits_any _⟩
theorem evtResponse (x0 : Byte) (x1 : Bytes) : Statement (.evtResponse x0 x1) := ⟨rfl, (rowHits_kind 0x02 0x02 x0).trans (by decide)⟩
theorem evtStream (x0 : Byte) (x1 : Bytes) : Statement (.evtStream x0 x1) := ⟨rfl, (rowHits_kind 0x03 0x03 x0).trans (by decide)⟩
theorem evtError (x0 : Byte) (x1 : Bytes) : Statement (.evtError x0 x1) := ⟨rfl, (rowHits_kind 0x04 0x04 x0).trans (by decide)⟩
theorem hostReject (x0 : Byte) (x1 : Byte) (x2 : Bytes) : Statement (.hostReject x0 x1 x2) := ⟨rfl, rowHits_any _⟩
theorem responsePing : Statement .responsePing := rfl
theorem responseStartStream : Statement .responseStartStream := rfl
theorem responseStopStream : Statement .responseStopStream := rfl
theorem streamTelemetry : Statement .streamTelemetry := rfl
theorem errorUnknownCmd : Statement .errorUnknownCmd := rfl
theorem errorBadPayload (x0 : Bytes) : Statement (.errorBadPayload x0) := rfl
theorem typeIpv4 : Statement .typeIpv4 := rfl
theorem typeIpv6 : Statement .typeIpv6 := rfl
theorem typeArp : Statement .typeArp := rfl

end SelectsItsRow

end Sys2Proof.Laws
end

