-- ==== Sys2Proof/Tests/Slice0.lean ====
section
/-! SUPPORT. The model's own tests: words written out from the encodings of spec/30_encoding.md, an
ill-formed term for each check of WellFormed, one-step theorems with the values of
spec/95_test_vectors.md, and a witness for every statement that has hypotheses. -/

namespace Sys2Proof.Tests

-- One theorem at a time: run side by side, the kernel evaluations below reserve a stack each.
set_option Elab.async false

open Machine

/-! ### Helpers -/

/-- The result a step drives. -/
def outOf : Outcome → Option Result
  | .next t => t.out
  | _ => none

/-- The host event a step drives. -/
def eventOf : Outcome → Option HostEvent
  | .next t => t.event
  | _ => none

/-- The next state of a step. -/
def nextOf : Outcome → Option State
  | .next t => some t
  | _ => none

/-- The refusal of a step. -/
def refusedOf : Outcome → Option Refusal
  | .refused r => some r
  | _ => none

/-- The registers and channels a test compares. -/
structure Seen where
  streaming : Bool
  counter : Word32
  h2d : List Bytes
  d2h : List Bytes
deriving DecidableEq, Repr

/-- What is seen of the next state. -/
def coreOf : Outcome → Option Seen
  | .next t => some ⟨t.streaming, t.counter, t.h2d, t.d2h⟩
  | _ => none

/-- 95_test_vectors.md: the Device's test address. -/
def addrD : Address := ⟨0x02, 0x00, 0x00, 0x00, 0x00, 0x02⟩
/-- 95_test_vectors.md: the Host's test address. -/
def addrH : Address := ⟨0x02, 0x00, 0x00, 0x00, 0x00, 0x01⟩

/-- V-FRM-1. -/
def f1 : Frame := ⟨addrD, addrH, 0x0800, List.replicate 46 0, 0xB42EE8A9⟩

/-- V-FRM-1, its 64 bytes. -/
def w1 : Bytes := [0x02, 0x00, 0x00, 0x00, 0x00, 0x02, 0x02, 0x00, 0x00, 0x00, 0x00, 0x01, 0x08, 0x00]
  ++ List.replicate 46 0x00 ++ [0xA9, 0xE8, 0x2E, 0xB4]

/-- V-FRM-2: 46 payload bytes counting up. -/
def p2 : Bytes := (List.range 46).map (BitVec.ofNat 8)

/-- V-FRM-2. -/
def f2 : Frame :=
  ⟨⟨0xFF, 0xFF, 0xFF, 0xFF, 0xFF, 0xFF⟩, ⟨0x0A, 0x0B, 0x0C, 0x0D, 0x0E, 0x0F⟩, 0x0806, p2, 0xB2CF3EBB⟩

/-- V-FRM-2, its 64 bytes. -/
def w2 : Bytes := [0xFF, 0xFF, 0xFF, 0xFF, 0xFF, 0xFF, 0x0A, 0x0B, 0x0C, 0x0D, 0x0E, 0x0F, 0x08, 0x06]
  ++ p2 ++ [0xBB, 0x3E, 0xCF, 0xB2]

/-- V-FRM-10: the Frame with a stale checksum. -/
def stale : Frame := { f1 with payload := 0x01 :: List.replicate 45 0 }

/-- A Frame the Host sends (P1, P3): the Message with no data, and the checksum bytes. -/
def fromHost (kind id : Byte) (crc : Bytes) : Bytes :=
  [0x02, 0x00, 0x00, 0x00, 0x00, 0x02, 0x02, 0x00, 0x00, 0x00, 0x00, 0x01, 0x08, 0x00, kind, id, 0x00, 0x00]
  ++ List.replicate 42 0x00 ++ crc

/-- A Frame the Device sends (P1, P3): header, data and checksum bytes. -/
def fromDevice (kind id : Byte) (data crc : Bytes) : Bytes :=
  [0x02, 0x00, 0x00, 0x00, 0x00, 0x01, 0x02, 0x00, 0x00, 0x00, 0x00, 0x02, 0x08, 0x00, kind, id,
    BitVec.ofNat 8 data.length, 0x00] ++ List.replicate (42 - data.length) 0x00 ++ data ++ crc

/-- P1, the command. -/
def pingWire : Bytes := fromHost 0x01 0x01 [0x76, 0x5B, 0x71, 0x68]
/-- P1, the reply. -/
def pongWire : Bytes := fromDevice 0x02 0x01 [0x50, 0x4F, 0x4E, 0x47] [0xE8, 0xC7, 0x9F, 0x5A]
/-- P2, the command. -/
def unknownWire : Bytes := fromHost 0x01 0x99 [0xAE, 0xB5, 0x4F, 0x58]
/-- P2, the answer. -/
def errorWire : Bytes := fromDevice 0x04 0x01 [] [0xAC, 0x0A, 0x72, 0x1F]
/-- P3, the command of step 1. -/
def startWire : Bytes := fromHost 0x01 0x02 [0xE3, 0x25, 0xBA, 0x57]
/-- P3, the command of step 5. -/
def stopWire : Bytes := fromHost 0x01 0x03 [0xAF, 0x0D, 0x2C, 0xF4]
/-- P3, `OK2`. -/
def ok2Wire : Bytes := fromDevice 0x02 0x02 [0x4F, 0x4B] [0x04, 0x90, 0xC2, 0x39]
/-- P3, `OK3`. -/
def ok3Wire : Bytes := fromDevice 0x02 0x03 [0x4F, 0x4B] [0x48, 0xB8, 0x54, 0x9A]
/-- P3, `S0`. -/
def stream0Wire : Bytes := fromDevice 0x03 0x01 [0x00, 0x00, 0x00, 0x00] [0x9C, 0x2F, 0xDF, 0x13]
/-- V-DSP-7, the Message with the counter 0xFFFFFFFF. -/
def streamMaxWire : Bytes := fromDevice 0x03 0x01 [0xFF, 0xFF, 0xFF, 0xFF] [0x7F, 0x0F, 0x64, 0xCD]

/-- After reset, with Frames in the channels. -/
def wired (h d : List Bytes) : State := { State.reset with h2d := h, d2h := d }

/-- After reset, with the fault-testing set of transforms (R104). -/
def faulty (h d : List Bytes) : State :=
  { wired h d with params := { Params.default with corrupt := .faultTesting } }

/-- After reset, with a value in `CRC.ACC`. -/
def accumulating (v : Word32) : State := { State.reset with acc := v, accReady := true }

/-- After reset, streaming. -/
def streamingAt (c : Word32) (phase : StreamPhase) (h : List Bytes) : State :=
  { wired h [] with
    streaming := true, counter := c, cfg := { State.reset.cfg with streamPhase := phase } }

/-- All operand ports carrying something, for the decode tests. -/
def ports : Ports where
  role := .device
  byte := 0x5A
  kind := 0x07
  identifier := 0x99
  typeTag := 0x0806
  dst := addrD
  src := addrH
  frame := f1
  suppress := true
  buffer := [0xAA, 0xBB]
  chunks := [[0x31], []]
  transform := .xorByte 20 0x01

/-- The decoder on an operation-select code with these ports. -/
def dec (code : BitVec 5) : Option Instr := (decode Params.default (.op code ports)).toOption

/-! ### Decoding: the words of R61 and R64 -/

theorem test_decode_reset : dec 0b00000 = some .reset := by decide
theorem test_decode_crc_init : dec 0b00001 = some .crcInit := by decide
theorem test_decode_crc_update : dec 0b00010 = some (.crcUpdate 0x5A) := by decide
theorem test_decode_crc_final : dec 0b00011 = some .crcFinal := by decide
theorem test_decode_crc_checksum : dec 0b00100 = some (.crcChecksum [[0x31], []]) := by decide
theorem test_decode_frame_new :
    dec 0b01000 = some (.frameNew addrD addrH 0x0806 [0xAA, 0xBB]) := by decide
theorem test_decode_frame_encode : dec 0b01001 = some (.frameEncode f1) := by decide
theorem test_decode_frame_decode : dec 0b01010 = some (.frameDecode [0xAA, 0xBB]) := by decide
theorem test_decode_frame_is_valid : dec 0b01011 = some (.frameIsValid f1) := by decide
theorem test_decode_frame_set_dst : dec 0b01100 = some (.frameSetDst f1 addrD) := by decide
theorem test_decode_frame_set_src : dec 0b01101 = some (.frameSetSrc f1 addrH) := by decide
theorem test_decode_frame_set_type : dec 0b01110 = some (.frameSetType f1 0x0806) := by decide
theorem test_decode_frame_set_payload :
    dec 0b01111 = some (.frameSetPayload f1 [0xAA, 0xBB] true) := by decide
theorem test_decode_msg_pack : dec 0b10000 = some (.msgPack 0x07 0x99 [0xAA, 0xBB]) := by decide
theorem test_decode_msg_unpack : dec 0b10001 = some (.msgUnpack [0xAA, 0xBB]) := by decide
theorem test_decode_link_tx : dec 0b10100 = some (.linkTx .device [0xAA, 0xBB]) := by decide
theorem test_decode_link_rx : dec 0b10101 = some (.linkRx .device (.xorByte 20 0x01)) := by decide
theorem test_decode_dev_poll : dec 0b11000 = some (.devPoll (.xorByte 20 0x01)) := by decide
theorem test_decode_host_send_command :
    dec 0b11100 = some (.hostSendCommand 0x99 [0xAA, 0xBB]) := by decide
theorem test_decode_host_poll : dec 0b11101 = some (.hostPoll (.xorByte 20 0x01)) := by decide

theorem test_decode_unlisted_codes :
    ∀ c : BitVec 5, c ∈ [0x05, 0x06, 0x07, 0x12, 0x13, 0x16, 0x17, 0x19, 0x1A, 0x1B, 0x1E, 0x1F] →
      dec c = none := by decide

theorem test_decode_device_rows :
    decodeHeader .device 0b0000000100000001 [0x01] = .cmdPing [0x01] ∧
    decodeHeader .device 0b0000000100000010 [] = .cmdStartStream [] ∧
    decodeHeader .device 0b0000000100000011 [] = .cmdStopStream [] ∧
    decodeHeader .device 0b0000000110011001 [] = .cmdUnknown 0x99 [] ∧
    decodeHeader .device 0b0000001000000001 [] = .devNotCommand 0x02 0x01 [] := by decide

theorem test_decode_host_rows :
    decodeHeader .host 0b0000001011101110 [] = .evtResponse 0xEE [] ∧
    decodeHeader .host 0b0000001101111111 [0x01] = .evtStream 0x7F [0x01] ∧
    decodeHeader .host 0b0000010000000010 [] = .evtError 0x02 [] ∧
    decodeHeader .host 0b0000000100000001 [] = .hostReject 0x01 0x01 [] := by decide

/-- R57, R64: the words of the named Messages are dispatched by kind alone. -/
theorem test_decode_named_messages :
    decodeTableWord 16 0b0000001000000001 = some (.evtResponse 0x01 []) ∧
    decodeTableWord 16 0b0000001000000010 = some (.evtResponse 0x02 []) ∧
    decodeTableWord 16 0b0000001000000011 = some (.evtResponse 0x03 []) ∧
    decodeTableWord 16 0b0000001100000001 = some (.evtStream 0x01 []) ∧
    decodeTableWord 16 0b0000010000000001 = some (.evtError 0x01 []) ∧
    decodeTableWord 16 0b0000010000000010 = some (.evtError 0x02 []) := by decide

theorem test_decode_named_types :
    decodeTableWord 16 0b0000100000000000 = some .typeIpv4 ∧
    decodeTableWord 16 0b1000011011011101 = some .typeIpv6 ∧
    decodeTableWord 16 0b0000100000000110 = some .typeArp := by decide

theorem test_decode_rejects_by_name :
    decode Params.default (.op 0x05 {}) = .error (.unlistedOp 0x05) ∧
    decode Params.default (.tag 0x1234) = .error (.unnamedTag 0x1234) := ⟨rfl, rfl⟩

theorem test_fetch_word_runs_first :
    step (State.reset.withFetchWord 8 0x01) = exec .crcInit State.reset ∧
    step (State.reset.withFetchWord 16 0x0101) = exec (.cmdPing []) State.reset ∧
    step (State.reset.withFetchWord 8 0x1F) = .refused (.unlistedOp 0x1F) := ⟨rfl, rfl, rfl⟩

/-! ### WellFormed refuses -/

theorem test_ill_formed_frames :
    ∀ n ∈ [0, 45, 1501], ∀ i ∈ [Instr.frameEncode { f1 with payload := zeros n },
      .frameIsValid { f1 with payload := zeros n }, .frameSetDst { f1 with payload := zeros n } addrD,
      .frameSetSrc { f1 with payload := zeros n } addrD,
      .frameSetType { f1 with payload := zeros n } 0,
      .frameSetPayload { f1 with payload := zeros n } [] false], i.wellFormed = false := by
  decide +kernel

theorem test_ill_formed_transforms :
    (Instr.linkRx .host (.xorByte 0 0)).wellFormed = false ∧
    (Instr.devPoll (.xorByte 0 0)).wellFormed = false ∧
    (Instr.hostPoll (.xorByte 0 0)).wellFormed = false := by decide

theorem test_ill_formed_data :
    ∀ i ∈ [Instr.cmdPing (zeros 65536), .cmdStartStream (zeros 65536), .cmdStopStream (zeros 65536),
      .cmdUnknown 0 (zeros 65536), .devNotCommand 0 0 (zeros 65536), .evtResponse 0 (zeros 65536),
      .evtStream 0 (zeros 65536), .evtError 0 (zeros 65536), .hostReject 0 0 (zeros 65536),
      .errorBadPayload (zeros 65536)], i.wellFormed = false := by
  intro i hi
  have h : ¬DataFits (zeros 65536) := by simp [DataFits]
  simp only [List.mem_cons, List.not_mem_nil, or_false] at hi
  obtain rfl | rfl | rfl | rfl | rfl | rfl | rfl | rfl | rfl | rfl := hi <;>
    simp only [Instr.wellFormed, h, and_false, decide_false]

theorem test_ill_formed_rows :
    (Instr.cmdUnknown 0x01 []).wellFormed = false ∧ (Instr.cmdUnknown 0x02 []).wellFormed = false ∧
    (Instr.cmdUnknown 0x03 []).wellFormed = false ∧
    (Instr.devNotCommand 0x01 0 []).wellFormed = false ∧
    (Instr.hostReject 0x02 0 []).wellFormed = false ∧
    (Instr.hostReject 0x03 0 []).wellFormed = false ∧
    (Instr.hostReject 0x04 0 []).wellFormed = false := by decide

/-! ### Reset and the CRC operations (V-CRC) -/

theorem test_reset_clears :
    coreOf (exec .reset (streamingAt 7 .preCmd [pingWire])) = some ⟨false, 0, [], []⟩ := by decide

/-- V-CRC-13. -/
theorem test_crc_init_discards :
    nextOf (exec .crcInit (accumulating 0xE8325304)) =
      some { accumulating 0xFFFFFFFF with out := some (.ok .none) } := by decide

/-- V-CRC-8. -/
theorem test_crc_update_byte :
    (nextOf (exec (.crcUpdate 0x50) (accumulating 0xFFFFFFFF))).map State.acc = some 0x46964186 ∧
    (nextOf (exec (.crcUpdate 0x4F) (accumulating 0x46964186))).map State.acc = some 0xE2FEEC55 := by
  decide

/-- 93_implementation_defined.md U7. -/
theorem test_crc_before_init_refused :
    refusedOf (exec (.crcUpdate 0x00) State.reset) = some .crcBeforeInit ∧
    refusedOf (exec .crcFinal State.reset) = some .crcBeforeInit := by decide

/-- V-CRC-8, R68. -/
theorem test_crc_final_keeps :
    nextOf (exec .crcFinal (accumulating 0xE8325304)) =
      some { accumulating 0xE8325304 with out := some (.ok (.word 0x17CDACFB)) } := by decide

/-- V-CRC-7. -/
theorem test_crc_checksum_chunks :
    outOf (exec (.crcChecksum [[0x31, 0x32, 0x33, 0x34], [], [0x35, 0x36, 0x37, 0x38, 0x39]])
      State.reset) = some (.ok (.word 0xCBF43926)) := by decide

/-- V-CRC-10. -/
theorem test_crc_checksum_ones :
    outOf (exec (.crcChecksum [[0xFF, 0xFF, 0xFF, 0xFF]]) State.reset) =
      some (.ok (.word 0xFFFFFFFF)) := by decide

/-! ### The frame operations (V-FRM) -/

/-- V-FRM-2. -/
theorem test_frame_new_f2 :
    outOf (exec (.frameNew f2.destination f2.source 0x0806 p2) State.reset) =
      some (.ok (.frame f2)) := by decide +kernel

/-- V-FRM-5. -/
theorem test_frame_new_bounds :
    outOf (exec (.frameNew addrD addrH 0x0800 (zeros 45)) State.reset) =
      some (.err (.payloadOutOfBounds 45)) ∧
    outOf (exec (.frameNew addrD addrH 0x0800 (zeros 1501)) State.reset) =
      some (.err (.payloadOutOfBounds 1501)) := by decide +kernel

/-- V-FRM-1, V-FRM-2. -/
theorem test_frame_encode_bytes :
    outOf (exec (.frameEncode f1) State.reset) = some (.ok (.bytes w1)) ∧
    outOf (exec (.frameEncode f2) State.reset) = some (.ok (.bytes w2)) := by decide +kernel

/-- V-FRM-2, V-FRM-14. -/
theorem test_frame_decode_f2 :
    outOf (exec (.frameDecode w2) State.reset) = some (.ok (.frame f2)) ∧
    outOf (exec (.frameDecode ((w2.set 12 0x06).set 13 0x08)) State.reset) =
      some (.err .checksumMismatch) := by decide +kernel

/-- V-FRM-6, V-FRM-8. -/
theorem test_frame_decode_lengths :
    outOf (exec (.frameDecode (w1.take 63)) State.reset) = some (.err (.frameTooShort 63)) ∧
    outOf (exec (.frameDecode (zeros 1519)) State.reset) = some (.err (.frameTooLong 1519)) := by
  decide +kernel

/-- V-FRM-1, V-FRM-10. -/
theorem test_frame_is_valid_stale :
    outOf (exec (.frameIsValid f1) State.reset) = some (.ok (.bit true)) ∧
    outOf (exec (.frameIsValid stale) State.reset) = some (.ok (.bit false)) := by decide +kernel

/-- V-FRM-9. -/
theorem test_frame_set_dst :
    outOf (exec (.frameSetDst f1 ⟨0xFF, 0xFF, 0xFF, 0xFF, 0xFF, 0xFF⟩) State.reset) =
      some (.ok (.frame { f1 with
        destination := ⟨0xFF, 0xFF, 0xFF, 0xFF, 0xFF, 0xFF⟩, checksum := 0xF82D88C1 })) := by
  decide +kernel

/-- V-FRM-9. -/
theorem test_frame_set_src :
    outOf (exec (.frameSetSrc f1 addrD) State.reset) =
      some (.ok (.frame { f1 with source := addrD, checksum := 0xFEB79FDD })) := by decide +kernel

/-- V-FRM-9. -/
theorem test_frame_set_type :
    outOf (exec (.frameSetType f1 0x0608) State.reset) =
      some (.ok (.frame { f1 with typeTag := 0x0608, checksum := 0xF25EB56A })) := by decide +kernel

/-- V-FRM-9, V-FRM-10. -/
theorem test_frame_set_payload :
    outOf (exec (.frameSetPayload f1 stale.payload false) State.reset) =
      some (.ok (.frame { stale with checksum := 0xCBE7733A })) ∧
    outOf (exec (.frameSetPayload f1 stale.payload true) State.reset) = some (.ok (.frame stale)) := by
  decide +kernel

/-- V-FRM-11. -/
theorem test_frame_set_payload_bounds :
    outOf (exec (.frameSetPayload f1 (zeros 45) true) State.reset) =
      some (.err (.payloadOutOfBounds 45)) := by decide +kernel

/-! ### The message operations (V-MSG) -/

/-- V-MSG-7, V-MSG-12: 300 data bytes, both byte orders. -/
theorem test_msg_pack_orders :
    outOf (exec (.msgPack 0x01 0x01 (zeros 300)) State.reset) =
      some (.ok (.bytes ([0x01, 0x01, 0x2C, 0x01] ++ zeros 300))) ∧
    outOf (exec (.msgPack 0x01 0x01 (zeros 300))
      { State.reset with cfg := { State.reset.cfg with lenOrder := .be } }) =
      some (.ok (.bytes ([0x01, 0x01, 0x01, 0x2C] ++ zeros 300))) := by decide +kernel

/-- V-MSG-6: 41 data bytes take one padding byte. -/
theorem test_msg_pack_padding :
    outOf (exec (.msgPack 0x01 0x01 (p2.take 41)) State.reset) =
      some (.ok (.bytes ([0x01, 0x01, 0x29, 0x00, 0x00] ++ p2.take 41))) := by decide +kernel

/-- V-MSG-11: the tail, not the head. -/
theorem test_msg_unpack_tail :
    outOf (exec (.msgUnpack ([0x02, 0x01, 0x04, 0x00, 0xAA, 0xBB, 0xCC, 0xDD] ++ zeros 34 ++
      [0x50, 0x4F, 0x4E, 0x47])) State.reset) =
      some (.ok (.message ⟨0x02, 0x01, 4, [0x50, 0x4F, 0x4E, 0x47]⟩)) := by decide +kernel

/-- V-MSG-10. -/
theorem test_msg_unpack_short :
    outOf (exec (.msgUnpack [0x01, 0x01, 0x00]) State.reset) = some (.err (.msgTooShort 3)) ∧
    outOf (exec (.msgUnpack [0x01, 0x01, 0x01, 0x00]) State.reset) =
      some (.err (.lengthExceedsBuffer 1 4)) ∧
    outOf (exec (.msgUnpack [0x01, 0x01, 0x00, 0x00]) State.reset) =
      some (.ok (.message ⟨0x01, 0x01, 0, []⟩)) := by decide

/-! ### The link adapter and the two roles (V-DSP, P1 to P4) -/

/-- V-DSP-1. -/
theorem test_link_tx_bounds :
    nextOf (exec (.linkTx .host (zeros 45)) State.reset) =
      some { State.reset with out := some (.err (.payloadOutOfBounds 45)) } ∧
    coreOf (exec (.linkTx .host (zeros 46)) State.reset) = some ⟨false, 0, [w1], []⟩ := by
  decide +kernel

/-- V-DSP-2, V-DSP-1. -/
theorem test_link_rx :
    nextOf (exec (.linkRx .device .identity) State.reset) =
      some { State.reset with out := some (.ok (.received none)) } ∧
    outOf (exec (.linkRx .device .identity) (wired [w1] [])) =
      some (.ok (.received (some (zeros 46)))) := by decide +kernel

/-- P4, step 2. -/
theorem test_dev_poll_corrupted :
    nextOf (exec (.devPoll (.xorByte 20 0x01)) (faulty [pingWire] [])) =
      some { faulty [] [] with out := some (.err .checksumMismatch) } := by decide +kernel

/-- P3, step 2: both values of `STREAM_PHASE`. -/
theorem test_dev_poll_start :
    coreOf (exec (.devPoll .identity) (wired [startWire] [])) =
      some ⟨true, 1, [], [ok2Wire, stream0Wire]⟩ ∧
    coreOf (exec (.devPoll .identity)
      { wired [startWire] [] with cfg := { State.reset.cfg with streamPhase := .preCmd } }) =
      some ⟨true, 0, [], [ok2Wire]⟩ := by decide +kernel

/-- P2, step 1, and V-DSP-4. -/
theorem test_host_send_command :
    coreOf (exec (.hostSendCommand 0x99 []) State.reset) = some ⟨false, 0, [unknownWire], []⟩ ∧
    nextOf (exec (.hostSendCommand 0x01 (zeros 1497)) State.reset) =
      some { State.reset with out := some (.err (.payloadOutOfBounds 1501)) } := by decide +kernel

/-- P1, step 3. -/
theorem test_host_poll_pong :
    nextOf (exec (.hostPoll .identity) (wired [] [pongWire])) =
      some { State.reset with
        out := some (.ok (.event (some ⟨.response, 0x01, [0x50, 0x4F, 0x4E, 0x47]⟩)))
        event := some ⟨.response, 0x01, [0x50, 0x4F, 0x4E, 0x47]⟩ } := by decide +kernel

/-- P4, step 9: a reserved kind. -/
theorem test_host_poll_reject :
    outOf (exec (.hostPoll .identity) (wired [] [carriedFrame State.reset.cfg .device
      (packedMessage .le 0x07 0x00 [])])) = some (.err (.protocolViolation 0x07)) := by decide +kernel

/-- P1, the reply; the command's data is ignored. -/
theorem test_cmd_ping :
    coreOf (exec (.cmdPing [0x01]) State.reset) = some ⟨false, 0, [], [pongWire]⟩ := by decide +kernel

/-- P3, `OK2`. -/
theorem test_cmd_start_stream :
    coreOf (exec (.cmdStartStream []) State.reset) = some ⟨true, 0, [], [ok2Wire]⟩ := by
  decide +kernel

/-- P3, `OK3`. -/
theorem test_cmd_stop_stream :
    coreOf (exec (.cmdStopStream []) (streamingAt 3 .postCmd [])) = some ⟨false, 3, [], [ok3Wire]⟩ := by
  decide +kernel

/-- P2, step 2. -/
theorem test_cmd_unknown :
    coreOf (exec (.cmdUnknown 0x99 []) State.reset) = some ⟨false, 0, [], [errorWire]⟩ := by
  decide +kernel

/-- P4, step 5. -/
theorem test_dev_not_command :
    nextOf (exec (.devNotCommand 0x02 0x01 [0x50]) State.reset) =
      some { State.reset with out := some (.err (.protocolViolation 0x02)) } := by decide

/-- V-DSP-6. -/
theorem test_events_pass_through :
    eventOf (exec (.evtError 0x02 []) State.reset) = some ⟨.error, 0x02, []⟩ ∧
    eventOf (exec (.evtStream 0x7F [0x01, 0x02]) State.reset) = some ⟨.stream, 0x7F, [0x01, 0x02]⟩ ∧
    eventOf (exec (.evtResponse 0xEE []) State.reset) = some ⟨.response, 0xEE, []⟩ := by decide

/-- P4, step 7. -/
theorem test_host_reject :
    nextOf (exec (.hostReject 0x01 0x01 []) State.reset) =
      some { State.reset with out := some (.err (.protocolViolation 0x01)) } := by decide

/-- P1, P2, P3: the named Messages as the Device sends them. -/
theorem test_named_messages :
    coreOf (exec .responsePing State.reset) = some ⟨false, 0, [], [pongWire]⟩ ∧
    coreOf (exec .responseStartStream State.reset) = some ⟨false, 0, [], [ok2Wire]⟩ ∧
    coreOf (exec .responseStopStream State.reset) = some ⟨false, 0, [], [ok3Wire]⟩ ∧
    coreOf (exec .errorUnknownCmd State.reset) = some ⟨false, 0, [], [errorWire]⟩ := by decide +kernel

/-- V-DSP-7: the counter wraps. -/
theorem test_stream_telemetry_wraps :
    coreOf (exec .streamTelemetry (streamingAt 0xFFFFFFFF .postCmd [])) =
      some ⟨true, 0, [], [streamMaxWire]⟩ := by decide +kernel

/-- V-DSP-6, U11. -/
theorem test_error_bad_payload :
    eventOf (exec (.errorBadPayload []) State.reset) = some ⟨.error, 0x02, []⟩ := by decide

/-- The defaults of R9. -/
theorem test_named_types :
    outOf (exec .typeIpv4 State.reset) = some (.ok (.tag 0x0800)) ∧
    outOf (exec .typeIpv6 State.reset) = some (.ok (.tag 0x86DD)) ∧
    outOf (exec .typeArp State.reset) = some (.ok (.tag 0x0806)) := by decide

/-! ### Where the bounds meet -/

/-- V-FRM-5: 45, 46, 1500, 1501. -/
theorem test_payload_bounds :
    payloadInBounds (zeros 45) = false ∧ payloadInBounds (zeros 46) = true ∧
    payloadInBounds (zeros 1500) = true ∧ payloadInBounds (zeros 1501) = false := by decide +kernel

/-- V-MSG-7: 65535 and 65536 data bytes. -/
theorem test_msg_pack_bound :
    (msgPack .le 0x01 0x01 (zeros 65535)).toOption.map List.length = some 65539 ∧
    (msgPack .le 0x01 0x01 (zeros 65536)).toOption = none := by
  constructor
  · rw [msgPack_fits _ _ _ (by simp)]
    simp [Except.toOption, packedMessage_length]
  · rw [msgPack_tooLarge _ _ _ (by simp)]; rfl

/-- V-DSP-4: 1497 and 65536 data bytes. -/
theorem test_send_message_bounds (s : State) :
    sendMessage .host 0x01 0x01 (zeros 1497) s = .error (.payloadOutOfBounds 1501) ∧
    sendMessage .host 0x01 0x01 (zeros 65536) s = .error (.dataTooLarge 65536) := by
  constructor
  · rw [sendMessage_tooLong _ _ _ _ (by simp) (by simp)]; simp
  · rw [sendMessage_tooLarge _ _ _ _ (by simp)]; simp

/-! ### Witnesses: for every statement with hypotheses, operands that meet them -/

/-- A command Message with no data, as the Device receives it. -/
def command (id : Byte) : Bytes := [0x01, id, 0x00, 0x00] ++ List.replicate 42 0x00

/-- V-DSP-3, Frame A: a wrong destination. -/
def wrongDst : Bytes :=
  [0x02, 0x00, 0x00, 0x00, 0x00, 0x03, 0x02, 0x00, 0x00, 0x00, 0x00, 0x01, 0x08, 0x00, 0x01, 0x01, 0x00, 0x00]
  ++ List.replicate 42 0x00 ++ [0x66, 0xE8, 0x72, 0x4A]

/-- V-DSP-5: a length field that overruns. -/
def overrun : Bytes :=
  [0x02, 0x00, 0x00, 0x00, 0x00, 0x02, 0x02, 0x00, 0x00, 0x00, 0x00, 0x01, 0x08, 0x00, 0x01, 0x01, 0x2B, 0x00]
  ++ List.replicate 42 0x00 ++ [0x06, 0xC9, 0x69, 0xD9]

/-- P4, step 4: a RESPONSE sent toward the Device. -/
def responseToDevice : Bytes := sentFrame State.reset.cfg .host 0x02 0x01 [0x50, 0x4F, 0x4E, 0x47]

/-- The error of a codec. -/
def errorOf {α : Type} : Except BlockError α → Option BlockError
  | .ok _ => none
  | .error e => some e

theorem next_of {o : Outcome} {t : State} (h : nextOf o = some t) : o = .next t := by
  cases o <;> simp_all [nextOf]

theorem ok_of {α : Type} {r : Except BlockError α} {a : α} (h : r.toOption = some a) :
    r = .ok a := by
  cases r <;> simp_all [Except.toOption]

theorem error_of {α : Type} {r : Except BlockError α} {e : BlockError} (h : errorOf r = some e) :
    r = .error e := by
  cases r <;> simp_all [errorOf]

theorem test_witness_StepRunsDecodedOperation :
    State.reset.pending = [] ∧
    ((State.reset.present (.op 0x01 {})).pending = .op 0x01 {} :: [] ∧
      decode Params.default (.op 0x01 {}) = .ok .crcInit) ∧
    ((State.reset.present (.op 0x1F {})).pending = .op 0x1F {} :: [] ∧
      decode Params.default (.op 0x1F {}) = .error (.unlistedOp 0x1F)) :=
  ⟨rfl, ⟨rfl, rfl⟩, rfl, rfl⟩

theorem test_witness_UnlistedCodesAreRefused :
    (State.reset.present (.op 0x1D ports)).pending = .op 0x1D ports :: [] ∧
    (State.reset.present (.op 0x1E ports)).pending = .op 0x1E ports :: [] := ⟨rfl, rfl⟩

theorem test_witness_DecodeInvertsEncode :
    Params.default.TagsDistinct ∧ (Instr.frameEncode f1).wellFormed = true ∧
    (Instr.frameEncode { f1 with payload := zeros 1500 }).wellFormed = true ∧
    (Instr.hostReject 0x05 0x00 []).wellFormed = true ∧
    (Instr.cmdUnknown 0x04 []).wellFormed = true ∧ ¬IsNamedMessage (.frameEncode f1) ∧
    ¬IsNamedMessage (.hostReject 0x05 0x00 []) ∧ ¬IsNamedMessage (.cmdUnknown 0x04 []) :=
  ⟨by decide, by decide +kernel, by decide +kernel, by decide, by decide, id, id, id⟩

theorem test_witness_NamedMessagesAreNeverSelected :
    decode Params.default (.header .host 0x0201 []) = .ok (.evtResponse 0x01 []) := rfl

theorem test_witness_CrcUpdateIsTableStep :
    (accumulating 0xFFFFFFFF).accReady = true ∧ (accumulating 0xFFFFFFFF).acc = 0xFFFFFFFF :=
  ⟨rfl, rfl⟩

theorem test_witness_CrcTableStepIsBitSerial : (accumulating 0x7C231048).accReady = true := rfl

theorem test_witness_CrcResidueIsConstant :
    (∃ t, exec (.crcChecksum [[]]) State.reset = .next t ∧ t.out = some (.ok (.word 0x00000000))) ∧
    ∃ t, exec (.crcChecksum [[0x00]]) State.reset = .next t ∧
      t.out = some (.ok (.word 0xD202EF8D)) := ⟨⟨_, rfl, rfl⟩, _, rfl, rfl⟩

theorem test_witness_FrameEncodeLayout :
    f1.WellFormed ∧ stale.WellFormed ∧
    stale.checksum ≠ frameCrc stale.destination stale.source stale.typeTag stale.payload := by
  decide +kernel

theorem test_witness_FrameIsValidRecomputes :
    (∃ t, exec (.frameDecode w1) State.reset = .next t ∧ t.out = some (.ok (.frame f1)) ∧
      ∀ g q, Instr.frameDecode w1 ≠ .frameSetPayload g q true) ∧
    exec (.frameIsValid f1) State.reset = .next (drives State.reset (.ok (.bit true))) ∧
    exec (.frameSetPayload f1 stale.payload true) State.reset =
      .next (drives State.reset (.ok (.frame stale))) ∧
    exec (.frameSetPayload f1 f1.payload true) State.reset =
      .next (drives State.reset (.ok (.frame f1))) :=
  ⟨⟨drives State.reset (.ok (.frame f1)), next_of (by decide +kernel), rfl, fun _ _ => nofun⟩,
    next_of (by decide +kernel), next_of (by decide +kernel), next_of (by decide +kernel)⟩

theorem test_witness_FrameMutatorsReseal :
    ¬(f1.payload.length < 46 ∨ 1500 < f1.payload.length) ∧
    f1.checksum = frameCrc f1.destination f1.source f1.typeTag f1.payload := by decide +kernel

theorem test_witness_FrameSetPayloadSuppresses :
    (Instr.frameSetDst stale addrD ∈ [Instr.frameSetDst stale addrD, .frameSetSrc stale addrD,
      .frameSetType stale 0x0800, .frameSetPayload stale stale.payload false]) ∧
    ∃ t h, exec (.frameSetDst stale addrD) State.reset = .next t ∧ t.out = some (.ok (.frame h)) :=
  ⟨List.mem_cons_self, _, _, rfl, rfl⟩

theorem test_witness_FrameRoundTrip :
    (46 ≤ (zeros 46).length ∧ (zeros 46).length ≤ 1500) ∧
    (46 ≤ (zeros 1500).length ∧ (zeros 1500).length ≤ 1500) ∧
    exec (.frameDecode w1) State.reset = .next (drives State.reset (.ok (.frame f1))) :=
  ⟨by simp, by simp, next_of (by decide +kernel)⟩

theorem test_witness_SingleByteCorruptionIsDetected :
    f1.WellFormed ∧ frameValid f1 = true ∧ 63 < (frameEncode f1).length ∧
    0 < (frameEncode f1).length ∧ (0x80 : Byte) ≠ 0 := by decide +kernel

theorem test_witness_SwappedTypeBytesAreDetected :
    f2.typeTag = 0x0806 ∧
    (∃ t, exec (.frameNew f2.destination f2.source 0x0806 p2) State.reset = .next t ∧
      t.out = some (.ok (.frame f2))) ∧
    f2.WellFormed ∧ frameValid f2 = true ∧
    byteAt (frameEncode f2) 12 ≠ byteAt (frameEncode f2) 13 :=
  ⟨rfl, ⟨_, rfl, by decide +kernel⟩, by decide +kernel⟩

theorem test_witness_OnlySuppressYieldsInvalidFrame :
    (∃ t, exec (.frameSetPayload f1 stale.payload true) State.reset = .next t ∧
      t.out = some (.ok (.frame stale))) ∧ frameValid stale = false :=
  ⟨⟨_, rfl, rfl⟩, by decide +kernel⟩

theorem test_witness_MsgPackPadsBeforeData : State.reset.cfg.lenOrder = .le := rfl

theorem test_witness_MsgUnpackTakesTail : State.reset.cfg.lenOrder = .le := rfl

theorem test_witness_MsgRoundTrip :
    (zeros 65535).length ≤ 65535 ∧ (zeros 42).length ≤ 65535 ∧ 42 ≤ (zeros 42).length := by simp

theorem test_witness_PaddingIsIgnored :
    let a : Bytes := [0x02, 0x01, 0x04, 0x00] ++ zeros 38 ++ [0x50, 0x4F, 0x4E, 0x47]
    let b : Bytes := [0x02, 0x01, 0x04, 0x00, 0xAA, 0xBB] ++ zeros 36 ++ [0x50, 0x4F, 0x4E, 0x47]
    let m : Message := ⟨0x02, 0x01, 4, [0x50, 0x4F, 0x4E, 0x47]⟩
    a.length = b.length ∧ a.take 4 = b.take 4 ∧
    exec (.msgUnpack a) State.reset = .next (drives State.reset (.ok (.message m))) ∧
    a.drop (a.length - m.length.toNat) = b.drop (b.length - m.length.toNat) :=
  ⟨rfl, rfl, rfl, rfl⟩

theorem test_witness_TruncatedPaddedMessageShifts :
    (zeros 41).length ≤ 41 ∧ ([] : Bytes).length ≤ 41 := by simp

theorem test_witness_LinkRxConsumesHead :
    State.reset.incoming .device = [] ∧ State.reset.incoming .host = [] ∧
    ((wired [w1] []).incoming .device = w1 :: [] ∧
      corruptAllows (wired [w1] []).params.corrupt .identity w1 = true) ∧
    ((faulty [] [w1]).incoming .host = w1 :: [] ∧
      corruptAllows (faulty [] [w1]).params.corrupt (.xorByte 63 0x01) w1 = true) := by decide

theorem test_witness_LinkDeliversInOrder :
    (46 ≤ (zeros 46).length ∧ (zeros 46).length ≤ 1500) ∧
    (46 ≤ (zeros 1500).length ∧ (zeros 1500).length ≤ 1500) ∧
    State.reset.incoming (otherRole .host) = [] ∧ State.reset.incoming (otherRole .device) = [] ∧
    (∀ w, corruptAllows State.reset.params.corrupt .identity w = true) :=
  ⟨by simp, by simp, rfl, rfl, fun _ => rfl⟩

theorem test_witness_WireFaultShowsAsChecksumMismatch :
    let s := faulty [frameEncode f1] [frameEncode f1]
    f1.WellFormed ∧ frameValid f1 = true ∧ 63 < (frameEncode f1).length ∧ (0x80 : Byte) ≠ 0 ∧
    .singleByte ∈ s.params.corrupt ∧ s.h2d = frameEncode f1 :: [] ∧ s.d2h = frameEncode f1 :: [] := by
  decide +kernel

theorem test_witness_TransformOutsideCorruptIsRefused :
    (State.reset.params.corrupt = [.identity] ∧
      (True ↔ Transform.xorByte 0 1 ≠ .identity) ∧ (False ↔ Transform.identity ≠ .identity)) ∧
    ((faulty [] []).params.corrupt = [.identity, .singleByte] ∧
      (True ↔ OutsideFaultTesting (.xorByte 64 0x01) w1) ∧
      (True ↔ OutsideFaultTesting (.xorByte 0 0x00) w1) ∧
      (True ↔ OutsideFaultTesting (.replace w2) w1) ∧
      (False ↔ OutsideFaultTesting (.xorByte 63 0x01) w1)) ∧
    (wired [w1] [w1]).h2d = w1 :: [] ∧ (wired [w1] [w1]).d2h = w1 :: [] := by
  simp [OutsideFaultTesting, w1, wired, faulty, State.reset, State.resetUnder, Params.default]

/-- R9: sets of transforms beside the two named ones, with and without the identity. -/
theorem test_corrupt_sets :
    corruptAllows [.identity, .singleBit] (.xorByte 0 0x40) w1 = true ∧
    corruptAllows [.identity, .singleBit] (.xorByte 0 0x41) w1 = false ∧
    corruptAllows [.singleByte] .identity w1 = false ∧
    corruptAllows [.every] (.replace w2) w1 = true := by decide

/-- R9: `LINK_TYPE` is `TYPE_IPV4` unless said. -/
theorem test_link_type_default :
    ({ hostAddr := addrH, deviceAddr := addrD, typeIpv4 := 0x1234 } : Params).linkType = 0x1234 := rfl

theorem test_witness_DevicePollFollowsTransitionTable :
    corruptAllows State.reset.params.corrupt .identity startWire = true ∧
    (∀ x ∈ [(0x01, pingWire), (0x02, startWire), (0x03, stopWire), (0x99, unknownWire)],
      (wired [x.2] []).h2d = x.2 :: [] ∧
      (linkAccept State.reset.cfg .device (applyTransform .identity x.2)).toOption =
        some (some (command x.1)) ∧
      (msgUnpack State.reset.cfg.lenOrder (command x.1)).toOption = some ⟨0x01, x.1, 0, []⟩) := by
  decide +kernel

theorem test_witness_DevicePollWithoutCommand :
    State.reset.h2d = [] ∧ (wired [wrongDst] []).h2d = wrongDst :: [] ∧
    corruptAllows State.reset.params.corrupt .identity wrongDst = true ∧
    (linkAccept State.reset.cfg .device (applyTransform .identity wrongDst)).toOption = some none := by
  decide +kernel

theorem test_witness_DevicePollErrorChangesNothingElse :
    (faulty [pingWire] []).h2d = pingWire :: [] ∧
    corruptAllows (faulty [pingWire] []).params.corrupt (.xorByte 20 0x01) pingWire = true ∧
    linkAccept State.reset.cfg .device (applyTransform (.xorByte 20 0x01) pingWire) =
      .error .checksumMismatch ∧
    linkAccept State.reset.cfg .device (applyTransform .identity overrun) =
      .ok (some ([0x01, 0x01, 0x2B, 0x00] ++ zeros 42)) ∧
    msgUnpack State.reset.cfg.lenOrder ([0x01, 0x01, 0x2B, 0x00] ++ zeros 42) =
      .error (.lengthExceedsBuffer 43 46) ∧
    linkAccept State.reset.cfg .device (applyTransform .identity responseToDevice) =
      .ok (some ([0x02, 0x01, 0x04, 0x00] ++ zeros 38 ++ [0x50, 0x4F, 0x4E, 0x47])) ∧
    msgUnpack State.reset.cfg.lenOrder
      ([0x02, 0x01, 0x04, 0x00] ++ zeros 38 ++ [0x50, 0x4F, 0x4E, 0x47]) =
      .ok ⟨0x02, 0x01, 4, [0x50, 0x4F, 0x4E, 0x47]⟩ ∧ (0x02 : Byte) ≠ 0x01 :=
  ⟨rfl, by decide, error_of (by decide +kernel), ok_of (by decide +kernel),
    error_of (by decide +kernel), ok_of (by decide +kernel), ok_of (by decide +kernel), by decide⟩

theorem test_witness_PollNeverReportsEncoderErrors :
    (∃ u, exec (.devPoll .identity) (wired [overrun] []) = .next u) ∧
    ∃ u, exec (.hostPoll .identity) (wired [] [pongWire]) = .next u := ⟨⟨_, rfl⟩, _, rfl⟩

theorem test_witness_HostSendCommandAppendsOneFrame :
    State.reset.cfg.hostAddr = ⟨2, 0, 0, 0, 0, 1⟩ ∧ State.reset.cfg.deviceAddr = ⟨2, 0, 0, 0, 0, 2⟩ ∧
    State.reset.cfg.linkType = 0x0800 := ⟨rfl, rfl, rfl⟩

theorem test_witness_HostPollClassifies :
    State.reset.d2h = [] ∧ (wired [] [pongWire]).d2h = pongWire :: [] ∧
    corruptAllows (wired [] [pongWire]).params.corrupt .identity pongWire = true := by decide

theorem test_witness_PingScenario :
    State.reset.h2d = [] ∧ State.reset.d2h = [] ∧ State.reset.streaming = false ∧
    (∀ w, corruptAllows State.reset.params.corrupt .identity w = true) :=
  ⟨rfl, rfl, rfl, fun _ => rfl⟩

theorem test_witness_StepKeepsGoodState :
    GoodState ((wired [w1] [pongWire]).present (.op 0x15 { role := .device })) ∧
    ∃ t, step ((wired [w1] [pongWire]).present (.op 0x15 { role := .device })) = .next t := by
  refine ⟨⟨rfl, ?_, ?_, trivial⟩, _, rfl⟩
  · intro w hw
    obtain rfl := List.mem_singleton.1 hw
    exact ⟨f1, ok_of (by decide +kernel)⟩
  · intro w hw
    obtain rfl := List.mem_singleton.1 hw
    exact ⟨frameFields pongWire, ok_of (by decide +kernel)⟩

theorem test_witness_StreamingChangesOnlyByCommand :
    (∃ t, exec .reset (streamingAt 0 .postCmd []) = .next t ∧ t.streaming ≠ true) ∧
    (∃ t, exec (.cmdStartStream []) State.reset = .next t ∧ t.streaming ≠ false) ∧
    (∃ t, exec (.cmdStopStream []) (streamingAt 0 .postCmd []) = .next t ∧ t.streaming ≠ true) ∧
    ∃ t, exec (.devPoll .identity) (wired [startWire] []) = .next t ∧ t.streaming ≠ false :=
  ⟨⟨_, rfl, nofun⟩, ⟨_, rfl, nofun⟩, ⟨_, rfl, nofun⟩, _, rfl, by decide +kernel⟩

theorem test_witness_CounterCountsTelemetry :
    (∃ t, exec .streamTelemetry (streamingAt 0xFFFFFFFF .postCmd []) = .next t) ∧
    Instr.streamTelemetry ≠ .reset ∧
    (∃ t, exec (.devPoll .identity) (wired [startWire] []) = .next t) ∧
    Instr.devPoll .identity ≠ .reset := ⟨⟨_, rfl⟩, nofun, ⟨_, rfl⟩, nofun⟩

theorem test_witness_ConfigurationIsReadOnly :
    (∃ t, exec (.linkTx .host (zeros 46)) (accumulating 1) = .next t) ∧
    Instr.linkTx .host (zeros 46) ≠ .reset ∧ Instr.linkTx .host (zeros 46) ≠ .crcInit ∧
    (∀ b, Instr.linkTx .host (zeros 46) ≠ .crcUpdate b) ∧
    ∀ c, Instr.linkTx .host (zeros 46) ≠ .crcChecksum c :=
  ⟨⟨_, rfl⟩, nofun, nofun, fun _ => nofun, fun _ => nofun⟩

theorem test_witness_CodecsArePure :
    IsCodecOperation (.msgUnpack w1) ∧
    State.reset.cfg.lenOrder = (streamingAt 7 .preCmd [w1]).cfg.lenOrder := ⟨trivial, rfl⟩

theorem test_witness_HostIgnoresDeviceRegisters :
    IsHostOperation (.hostPoll .identity) ∧
    ∃ t, exec (.hostPoll .identity) (wired [] [pongWire]) = .next t := ⟨trivial, _, rfl⟩

theorem test_witness_ChannelsAreFifo :
    (∃ t, exec (.devPoll .identity) (wired [startWire] []) = .next t) ∧
    Instr.devPoll .identity ≠ .reset ∧
    (∃ t, exec (.hostSendCommand 0x01 []) State.reset = .next t) ∧
    Instr.hostSendCommand 0x01 [] ≠ .reset := ⟨⟨_, rfl⟩, nofun, ⟨_, rfl⟩, nofun⟩

end Sys2Proof.Tests
end

section
/-! SUPPORT and SETTLEMENTS. The CRC-32 operations (spec/40_crc32.md section 2): what each of them
does to the state, the accumulator after a run of updates, and the obligations about them. -/

namespace Sys2Proof.Machine

/-! ### What each CRC operation does -/

theorem exec_crcInit (s : State) :
    exec .crcInit s = .next (drives { s with acc := crcInitValue, accReady := true } (.ok .none)) :=
  rfl

theorem exec_crcUpdate (b : Byte) (s : State) :
    exec (.crcUpdate b) s =
      if s.accReady then .next (drives { s with acc := crcUpdate s.acc b } (.ok .none))
      else .refused .crcBeforeInit := by
  obtain ⟨_, _, _, _, _ | _, _, _, _, _, _, _⟩ := s <;> rfl

theorem exec_crcUpdate_ready (b : Byte) {s : State} (h : s.accReady = true) :
    exec (.crcUpdate b) s = .next (drives { s with acc := crcUpdate s.acc b } (.ok .none)) := by
  rw [exec_crcUpdate, if_pos h]

theorem exec_crcFinal_ready {s : State} (h : s.accReady = true) :
    exec .crcFinal s = .next (drives s (.ok (.word (crcFinish s.acc)))) :=
  if_pos h

theorem exec_crcChecksum (chunks : List Bytes) (s : State) :
    exec (.crcChecksum chunks) s =
      .next (drives { s with acc := crcRunChunks crcInitValue chunks, accReady := true }
        (.ok (.word (crcChecksum chunks)))) := rfl

/-! ### Runs of several operations -/

theorem execAll_cons_next {i : Instr} {s t : State} (is : List Instr) (h : exec i s = .next t) :
    execAll (i :: is) s = execAll is t := by
  rw [execAll, h]

/-- A `CRC.UPDATE` for each byte of `bs` folds the bytes into `CRC.ACC` and changes nothing else but
the ports. -/
theorem execAll_map_crcUpdate_append (bs : Bytes) (is : List Instr) {s : State}
    (h : s.accReady = true) :
    ∃ o e, execAll (bs.map .crcUpdate ++ is) s =
      execAll is { s with acc := crcRun s.acc bs, out := o, event := e } := by
  induction bs generalizing s with
  | nil => exact ⟨s.out, s.event, rfl⟩
  | cons b bs ih =>
    obtain ⟨o, e, hrun⟩ := ih (s := drives { s with acc := crcUpdate s.acc b } (.ok .none)) h
    exact ⟨o, e, (execAll_cons_next _ (exec_crcUpdate_ready b h)).trans hrun⟩

/-! ### Chunk boundaries -/

theorem crcRunChunks_eq_crcRun_flatten (acc : Word32) (chunks : List Bytes) :
    crcRunChunks acc chunks = crcRun acc chunks.flatten :=
  List.foldl_flatten.symm

/-- `CRC.CHECKSUM` depends on its chunks through the bytes they hold in order. -/
theorem exec_crcChecksum_congr {a b : List Bytes} (h : a.flatten = b.flatten) (s : State) :
    exec (.crcChecksum a) s = exec (.crcChecksum b) s := by
  have hrun : crcRunChunks crcInitValue a = crcRunChunks crcInitValue b := by
    rw [crcRunChunks_eq_crcRun_flatten, crcRunChunks_eq_crcRun_flatten, h]
  rw [exec_crcChecksum, exec_crcChecksum, crcChecksum, crcChecksum, hrun]

/-- The split sequence `CRC.INIT`, `CRC.UPDATE` for each byte, `CRC.FINAL` drives the word that
`CRC.CHECKSUM` of the chunks drives (R69). -/
theorem execAll_crcSplitSequence (chunks : List Bytes) (s : State) :
    ∃ t, execAll (.crcInit :: (chunks.flatten.map .crcUpdate ++ [.crcFinal])) s = .next t ∧
      t.out = some (.ok (.word (crcChecksum chunks))) := by
  rw [execAll_cons_next _ (exec_crcInit s)]
  obtain ⟨_, _, hrun⟩ := execAll_map_crcUpdate_append chunks.flatten [.crcFinal]
    (s := drives { s with acc := crcInitValue, accReady := true } (.ok .none)) rfl
  rw [hrun, execAll_cons_next [] (exec_crcFinal_ready rfl), crcChecksum,
    crcRunChunks_eq_crcRun_flatten]
  exact ⟨_, rfl, rfl⟩

/-! ### The table index -/

/-- The index as R67 writes it, on 32 bits and then cut to a byte, is the model's. -/
theorem crcIndex_eq (acc : Word32) (b : Byte) :
    ((acc ^^^ b.zeroExtend 32) &&& 0xFF).truncate 8 = acc.truncate 8 ^^^ b := by
  have hmask : (0xFF : Word32).setWidth 8 = BitVec.allOnes 8 := rfl
  simp only [BitVec.truncate_eq_setWidth, BitVec.setWidth_and, BitVec.setWidth_xor, hmask,
    BitVec.and_allOnes, BitVec.setWidth_setWidth_of_le, Nat.reduceLeDiff, BitVec.setWidth_eq]

end Sys2Proof.Machine

namespace Sys2Proof

open Machine

/-- Settles O13: the bytes of the chunks in order decide both the answer of `CRC.CHECKSUM` and that
of the split sequence. -/
theorem crcChecksumIsSplitSequence : Obligations.CrcChecksumIsSplitSequence := by
  refine ⟨fun p chunks s => ?_, fun s a b => ?_, fun s => ?_⟩
  · obtain ⟨t, hsplit, hout⟩ := execAll_crcSplitSequence chunks s
    exact ⟨t, _, crcChecksum chunks, rfl, hsplit, exec_crcChecksum chunks s, hout, rfl⟩
  · exact exec_crcChecksum_congr (by simp) s
  · have hcheck : crcChecksum [[0x31, 0x32, 0x33, 0x34, 0x35, 0x36, 0x37, 0x38, 0x39]] =
        0xCBF43926 := by decide
    exact ⟨_, _, _, exec_crcChecksum [] s, rfl, exec_crcChecksum [[]] s, rfl,
      exec_crcChecksum _ s, by rw [hcheck]; rfl⟩

/-- Settles O9, by the effect of `CRC.INIT` and then that of `CRC.FINAL` on a ready accumulator. -/
theorem crcInitSetsAccumulator : Obligations.CrcInitSetsAccumulator := by
  intro p s
  have hzero : crcFinish crcInitValue = 0 := by decide
  refine ⟨rfl, _, rfl, exec_crcInit s, ?_⟩
  rw [exec_crcFinal_ready rfl]
  simp only [drives, hzero]

/-- Settles O10, by the effect of `CRC.UPDATE` with R67's index; the examples evaluate the table
step. -/
theorem crcUpdateIsTableStep : Obligations.CrcUpdateIsTableStep := by
  refine ⟨fun p s b => ⟨rfl, ?_⟩, fun s hready hacc => ?_⟩
  · simp only [crcIndex_eq]
    exact exec_crcUpdate b s
  · have h00 : crcUpdate 0xFFFFFFFF 0x00 = 0x2DFD1072 := by decide
    have h31 : crcUpdate 0xFFFFFFFF 0x31 = 0x7C231048 := by decide
    rw [exec_crcUpdate_ready 0x00 hready, exec_crcUpdate_ready 0x31 hready, hacc, h00, h31]
    exact ⟨rfl, rfl⟩

end Sys2Proof
end

section
/-! SUPPORT and SETTLEMENTS. The frame codec (spec/41_frame_codec.md): that the CRC-32 table step
loses no information, what a Frame's checksum covers, what each frame operation drives, which
operations return a Frame, and the obligations about them. -/

namespace Sys2Proof.Machine

/-! ### The table step loses no information (40_crc32.md) -/

theorem crcShift_eq_xor (c : Word32) :
    crcShift c = (c >>> 1) ^^^ (if c.getLsbD 0 then crcPolyRev else 0) := by
  unfold crcShift
  split <;> simp

theorem crcShift_xor (c d : Word32) : crcShift (c ^^^ d) = crcShift c ^^^ crcShift d := by
  have hpoly : (if (c ^^^ d).getLsbD 0 then crcPolyRev else 0) =
      (if c.getLsbD 0 then crcPolyRev else 0) ^^^ (if d.getLsbD 0 then crcPolyRev else 0) := by
    rw [BitVec.getLsbD_xor]
    cases c.getLsbD 0 <;> cases d.getLsbD 0 <;> decide
  rw [crcShift_eq_xor, crcShift_eq_xor c, crcShift_eq_xor d, hpoly, BitVec.ushiftRight_xor_distrib]
  ac_rfl

theorem crcShifts_xor (n : Nat) (c d : Word32) :
    crcShifts n (c ^^^ d) = crcShifts n c ^^^ crcShifts n d := by
  induction n generalizing c d with
  | zero => rfl
  | succ n ih => rw [crcShifts_succ, crcShift_xor, ih, crcShifts_succ, crcShifts_succ]

theorem crcTbl_xor (i j : Byte) : crcTbl (i ^^^ j) = crcTbl i ^^^ crcTbl j := by
  simp only [crcTbl, BitVec.truncate_eq_setWidth, BitVec.setWidth_xor, crcShifts_xor]

theorem crcTbl_topByte_eq_zero : ∀ i : Byte, crcTbl i >>> 24 = 0 → i = 0 := by decide

/-- The top bytes of the 256 table entries are distinct. -/
theorem crcTbl_topByte_injective {i j : Byte} (h : crcTbl i >>> 24 = crcTbl j >>> 24) : i = j := by
  refine BitVec.xor_eq_zero_iff.1 (crcTbl_topByte_eq_zero _ ?_)
  rw [crcTbl_xor, BitVec.ushiftRight_xor_distrib, h]
  exact BitVec.xor_self

/-- The top byte of the new accumulator comes from the table entry alone. -/
theorem crcUpdate_topByte (acc : Word32) (b : Byte) :
    crcUpdate acc b >>> 24 = crcTbl (acc.truncate 8 ^^^ b) >>> 24 := by
  have hshift : acc >>> 8 >>> 24 = 0 := by
    rw [← BitVec.shiftRight_add]
    exact BitVec.ushiftRight_eq_zero (Nat.le_refl 32)
  rw [crcUpdate, BitVec.ushiftRight_xor_distrib, hshift]
  exact BitVec.zero_xor

/-- The new accumulator gives back the index of the table entry and the old upper bytes. -/
theorem crcUpdate_inj {acc acc' : Word32} {b b' : Byte} (h : crcUpdate acc b = crcUpdate acc' b') :
    acc >>> 8 = acc' >>> 8 ∧ acc.truncate 8 ^^^ b = acc'.truncate 8 ^^^ b' := by
  have hindex : acc.truncate 8 ^^^ b = acc'.truncate 8 ^^^ b' := by
    apply crcTbl_topByte_injective
    rw [← crcUpdate_topByte, ← crcUpdate_topByte, h]
  rw [crcUpdate, crcUpdate, hindex] at h
  exact ⟨(BitVec.xor_left_inj _).1 h, hindex⟩

theorem word32_eq_of_upper_of_low {v v' : Word32} (hupper : v >>> 8 = v' >>> 8)
    (hlow : v.truncate 8 = v'.truncate 8) : v = v' := by
  apply BitVec.eq_of_toNat_eq
  have hu := congrArg BitVec.toNat hupper
  have hl := congrArg BitVec.toNat hlow
  simp only [BitVec.toNat_ushiftRight, Nat.shiftRight_eq_div_pow, BitVec.truncate_eq_setWidth,
    BitVec.toNat_setWidth] at hu hl
  omega

theorem crcUpdate_acc_injective {acc acc' : Word32} {b : Byte}
    (h : crcUpdate acc b = crcUpdate acc' b) : acc = acc' := by
  obtain ⟨hupper, hindex⟩ := crcUpdate_inj h
  exact word32_eq_of_upper_of_low hupper ((BitVec.xor_left_inj _).1 hindex)

/-- Different accumulators stay different over the same bytes. -/
theorem crcRun_acc_injective {acc acc' : Word32} (bs : Bytes)
    (h : crcRun acc bs = crcRun acc' bs) : acc = acc' := by
  induction bs generalizing acc acc' with
  | nil => exact h
  | cons b bs ih => exact crcUpdate_acc_injective (ih h)

/-- Two bytes are determined by what they make of an accumulator. -/
theorem crcRun_pair_injective {acc : Word32} {a b a' b' : Byte}
    (h : crcRun acc [a, b] = crcRun acc [a', b']) : a = a' ∧ b = b' := by
  obtain ⟨hupper, hindex⟩ := crcUpdate_inj h
  have ha : a = a' := by
    have htop : crcUpdate acc a >>> 24 = crcUpdate acc a' >>> 24 := by
      rw [show 24 = 8 + 16 from rfl, BitVec.shiftRight_add, hupper, ← BitVec.shiftRight_add]
    rw [crcUpdate_topByte, crcUpdate_topByte] at htop
    exact (BitVec.xor_right_inj _).1 (crcTbl_topByte_injective htop)
  subst ha
  exact ⟨rfl, (BitVec.xor_right_inj _).1 hindex⟩

/-! ### What the checksum of a Frame covers (R75) -/

theorem crcChecksum_eq_of_flatten_eq {a b : List Bytes} (h : a.flatten = b.flatten) :
    crcChecksum a = crcChecksum b := by
  rw [crcChecksum, crcChecksum, crcRunChunks_eq_crcRun_flatten, crcRunChunks_eq_crcRun_flatten, h]

theorem frameEncode_take_without_checksum (f : Frame) :
    (frameEncode f).take ((frameEncode f).length - 4) =
      addrBytes f.destination ++ addrBytes f.source ++ be16 f.typeTag ++ f.payload :=
  List.take_left' (by simp; omega)

theorem frameCrc_eq_crcChecksum_take (f : Frame) :
    frameCrc f.destination f.source f.typeTag f.payload =
      crcChecksum [(frameEncode f).take ((frameEncode f).length - 4)] :=
  crcChecksum_eq_of_flatten_eq (by rw [frameEncode_take_without_checksum]; simp)

/-- Changing the type tag alone always changes the checksum. -/
theorem frameCrc_typeTag_injective {dst src : Address} {ty ty' : Word16} {payload : Bytes}
    (h : frameCrc dst src ty payload = frameCrc dst src ty' payload) : ty = ty' := by
  have hrun := crcRun_acc_injective payload ((BitVec.xor_left_inj _).1 h)
  obtain ⟨hhigh, hlow⟩ := crcRun_pair_injective hrun
  rw [← word16_join ty, ← word16_join ty', hhigh, hlow]

/-! ### The type tag's two bytes (R88) -/

/-- The type tag whose two bytes on the wire stand the other way round. -/
def swapBytes (v : Word16) : Word16 := v.extractLsb' 0 8 ++ v.extractLsb' 8 8

theorem be16_swapBytes (v : Word16) : be16 (swapBytes v) = le16 v := by
  have hhigh := wordKind_headerWord (v.extractLsb' 0 8) (v.extractLsb' 8 8)
  have hlow := wordIdentifier_headerWord (v.extractLsb' 0 8) (v.extractLsb' 8 8)
  exact congrArg₂ (fun a b => [a, b]) hhigh hlow

theorem byteAt_frameEncode_12 (f : Frame) :
    byteAt (frameEncode f) 12 = f.typeTag.extractLsb' 8 8 := rfl

theorem byteAt_frameEncode_13 (f : Frame) :
    byteAt (frameEncode f) 13 = f.typeTag.extractLsb' 0 8 := rfl

/-- Exchanging bytes 12 and 13 of an encoded Frame encodes the Frame with the swapped type tag. -/
theorem frameEncode_exchange_type_bytes (f : Frame) :
    ((frameEncode f).set 12 (byteAt (frameEncode f) 13)).set 13 (byteAt (frameEncode f) 12) =
      frameEncode { f with typeTag := swapBytes f.typeTag } := by
  rw [frameEncode, frameEncode, be16_swapBytes]
  rfl

/-- With different type bytes, the swapped type tag breaks a valid checksum. -/
theorem frameValid_swapBytes_eq_false {f : Frame} (hvalid : frameValid f = true)
    (hne : byteAt (frameEncode f) 12 ≠ byteAt (frameEncode f) 13) :
    frameValid { f with typeTag := swapBytes f.typeTag } = false := by
  by_contra hswapped
  rw [Bool.not_eq_false, frameValid_iff] at hswapped
  have hty : f.typeTag = swapBytes f.typeTag :=
    frameCrc_typeTag_injective (((frameValid_iff f).1 hvalid).symm.trans hswapped)
  have hbytes : be16 f.typeTag = le16 f.typeTag := (congrArg be16 hty).trans (be16_swapBytes _)
  exact hne (List.cons.inj hbytes).1

/-! ### The bytes of the wire as R79 joins them -/

theorem be16At_eq_or (w : Bytes) (i : Nat) :
    be16At w i = ((byteAt w i).zeroExtend 16 <<< 8) ||| (byteAt w (i + 1)).zeroExtend 16 := by
  rw [be16At, BitVec.append_def, BitVec.shiftLeftZeroExtend_eq, BitVec.setWidth'_eq]

/-- A byte appended on the right comes in as by a shift and an or. -/
theorem setWidth_append_byte {n : Nat} (a : BitVec n) (b : Byte) :
    (a ++ b).setWidth 32 = (a.setWidth 32 <<< 8) ||| b.setWidth 32 := by
  ext j hj
  by_cases h8 : j < 8
  · simp [BitVec.getLsbD_append, h8]
  · simp [BitVec.getLsbD_append, h8, BitVec.getLsbD_of_ge b j (by omega)]

theorem word32_of_bytes_eq_or (a b c d : Byte) :
    a ++ b ++ c ++ d = d.setWidth 32 ||| (c.setWidth 32 <<< 8) ||| (b.setWidth 32 <<< 16) |||
      (a.setWidth 32 <<< 24) := by
  have hreverse (x y z u : Word32) : x ||| y ||| z ||| u = u ||| z ||| y ||| x := by ac_rfl
  refine (BitVec.setWidth_eq _).symm.trans ?_
  rw [setWidth_append_byte, setWidth_append_byte, setWidth_append_byte,
    BitVec.shiftLeft_or_distrib, BitVec.shiftLeft_or_distrib, BitVec.shiftLeft_or_distrib,
    ← BitVec.shiftLeft_add, ← BitVec.shiftLeft_add, ← BitVec.shiftLeft_add, hreverse]

/-- The parsed fields as R79 writes them. -/
theorem frameFields_eq {w : Bytes} (h : 4 ≤ w.length) :
    frameFields w =
      ⟨⟨byteAt w 0, byteAt w 1, byteAt w 2, byteAt w 3, byteAt w 4, byteAt w 5⟩,
        ⟨byteAt w 6, byteAt w 7, byteAt w 8, byteAt w 9, byteAt w 10, byteAt w 11⟩,
        ((byteAt w 12).zeroExtend 16 <<< 8) ||| (byteAt w 13).zeroExtend 16,
        (w.drop 14).take (w.length - 18),
        (byteAt w (w.length - 4)).zeroExtend 32 |||
          ((byteAt w (w.length - 3)).zeroExtend 32 <<< 8) |||
          ((byteAt w (w.length - 2)).zeroExtend 32 <<< 16) |||
          ((byteAt w (w.length - 1)).zeroExtend 32 <<< 24)⟩ := by
  have h1 : w.length - 4 + 1 = w.length - 3 := by omega
  have h2 : w.length - 4 + 2 = w.length - 2 := by omega
  have h3 : w.length - 4 + 3 = w.length - 1 := by omega
  rw [frameFields, be16At_eq_or, slice, Nat.sub_sub, le32At, word32_of_bytes_eq_or, h1, h2, h3]
  rfl

/-! ### What each frame operation drives -/

/-- `FRAME.NEW` as R77 puts it. -/
theorem exec_frameNew (dst src : Address) (ty : Word16) (payload : Bytes) (s : State) :
    exec (.frameNew dst src ty payload) s = .next (drives s
      (if payload.length < 46 ∨ 1500 < payload.length then
        .err (.payloadOutOfBounds payload.length)
      else .ok (.frame ⟨dst, src, ty, payload, frameCrc dst src ty payload⟩))) := by
  change Host.Outcome.next (s.report .frame (frameNew dst src ty payload)) = _
  obtain ⟨hmin, hmax, hnew⟩ | ⟨hout, hnew⟩ := frameNew_cases dst src ty payload
  · rw [hnew, if_neg (by omega)]; rfl
  · rw [hnew, if_pos (by omega)]; rfl

/-- Within the bound, `FRAME.NEW` seals its operands with their checksum. -/
theorem exec_frameNew_seals {dst src : Address} {ty : Word16} {payload : Bytes} {crc : Word32}
    (s : State) (h : ¬(payload.length < 46 ∨ 1500 < payload.length))
    (hcrc : frameCrc dst src ty payload = crc) :
    exec (.frameNew dst src ty payload) s =
      .next (drives s (.ok (.frame ⟨dst, src, ty, payload, crc⟩))) := by
  rw [exec_frameNew, if_neg h, hcrc]

theorem exec_frameNew_refuses (dst src : Address) (ty : Word16) {payload : Bytes} (s : State)
    (h : payload.length < 46 ∨ 1500 < payload.length) :
    exec (.frameNew dst src ty payload) s =
      .next (drives s (.err (.payloadOutOfBounds payload.length))) := by
  rw [exec_frameNew, if_pos h]

/-- The recomputing mutators are `FRAME.NEW` on the fields after the change (R81 to R83). -/
theorem exec_frameSetDst (f : Frame) (dst : Address) (s : State) :
    exec (.frameSetDst f dst) s = exec (.frameNew dst f.source f.typeTag f.payload) s := rfl

theorem exec_frameSetSrc (f : Frame) (src : Address) (s : State) :
    exec (.frameSetSrc f src) s = exec (.frameNew f.destination src f.typeTag f.payload) s := rfl

theorem exec_frameSetType (f : Frame) (ty : Word16) (s : State) :
    exec (.frameSetType f ty) s = exec (.frameNew f.destination f.source ty f.payload) s := rfl

theorem exec_frameEncode (f : Frame) (s : State) :
    exec (.frameEncode f) s = .next (drives s (.ok (.bytes (frameEncode f)))) := rfl

theorem exec_frameIsValid (f : Frame) (s : State) :
    exec (.frameIsValid f) s = .next (drives s (.ok (.bit (frameValid f)))) := rfl

theorem exec_frameDecode (w : Bytes) (s : State) :
    exec (.frameDecode w) s = .next (s.report .frame (frameDecode w)) := rfl

theorem exec_frameSetPayload (f : Frame) (q : Bytes) (suppress : Bool) (s : State) :
    exec (.frameSetPayload f q suppress) s =
      .next (s.report .frame (frameSetPayload f q suppress)) := rfl

theorem frameValid_of_exec_frameIsValid {f : Frame} {s : State}
    (h : exec (.frameIsValid f) s = .next (drives s (.ok (.bit true)))) : frameValid f = true := by
  rw [exec_frameIsValid] at h
  injection h with h
  injection congrArg State.out h with h
  injection h with h
  injection h

theorem exec_frameDecode_ok {w : Bytes} {f : Frame} (s : State) (h : frameDecode w = .ok f) :
    exec (.frameDecode w) s = .next (drives s (.ok (.frame f))) := by
  rw [exec_frameDecode, h]; rfl

theorem exec_frameDecode_error {w : Bytes} {e : BlockError} (s : State)
    (h : frameDecode w = .error e) : exec (.frameDecode w) s = .next (drives s (.err e)) := by
  rw [exec_frameDecode, h]; rfl

/-- On bytes of legal length the decoder answers by the checksum of the parsed fields (R79). -/
theorem exec_frameDecode_sized {w : Bytes} {f : Frame} (s : State) (hmin : 64 ≤ w.length)
    (hmax : w.length ≤ 1518) (hf : frameFields w = f) :
    exec (.frameDecode w) s = .next (drives s
      (if frameCrc f.destination f.source f.typeTag f.payload ≠ f.checksum then
        .err .checksumMismatch
      else .ok (.frame f))) := by
  obtain ⟨hlt, -⟩ | ⟨hgt, -⟩ | ⟨-, -, hvalid, hdec⟩ | ⟨-, -, hvalid, hdec⟩ := frameDecode_cases w
  · omega
  · omega
  · rw [← Bool.not_eq_true, hf, frameValid_iff] at hvalid
    rw [exec_frameDecode_error s hdec, if_pos (Ne.symm hvalid)]
  · rw [hf] at hvalid hdec
    rw [exec_frameDecode_ok s hdec, if_neg (not_not.2 ((frameValid_iff f).1 hvalid).symm)]

/-- Decoding an encoded Frame of legal length is the validity check (R79). -/
theorem frameDecode_frameEncode {f : Frame} (h : f.WellFormed) :
    frameDecode (frameEncode f) =
      if frameValid f then .ok f else .error .checksumMismatch := by
  obtain ⟨hmin, hmax⟩ := h
  have hlong : frameMin ≤ (frameEncode f).length := by
    rw [frameEncode_length]; exact Nat.add_le_add_right hmin 18
  have hshort : (frameEncode f).length ≤ frameMax := by
    rw [frameEncode_length]; exact Nat.add_le_add_right hmax 18
  rw [frameDecode, if_neg (Nat.not_lt.2 hlong), if_neg (Nat.not_lt.2 hshort),
    frameFields_frameEncode]

theorem exec_frameSetPayload_suppress_ok {f g : Frame} {q : Bytes} {s : State}
    (h : exec (.frameSetPayload f q true) s = .next (drives s (.ok (.frame g)))) :
    g = { f with payload := q } := by
  rw [exec_frameSetPayload] at h
  by_cases hq : 46 ≤ q.length ∧ q.length ≤ 1500
  · rw [frameSetPayload_inBounds f true hq] at h
    cases h
    rfl
  · rw [frameSetPayload_outOfBounds f true hq] at h
    cases h

/-! ### Which operations return a Frame -/

/-- The result port does not carry a Frame. -/
def ReturnsNoFrame (s : State) : Prop := ∀ f, s.out ≠ some (.ok (.frame f))

theorem runEmission_returnsNoFrame (r : Except BlockError State) (s : State) :
    ReturnsNoFrame (runEmission r s) := by
  cases r <;> nofun

theorem runHandler_returnsNoFrame (h : DevHeader) (s : State) :
    ReturnsNoFrame (runHandler h s) := by
  unfold runHandler
  split <;> nofun

theorem devCycle_returnsNoFrame (r : Except BlockError (Option Bytes)) (s : State) :
    ReturnsNoFrame (devCycle r s) := by
  unfold devCycle
  repeat' split
  all_goals nofun

theorem hostHandle_returnsNoFrame (h : HostHeader) (data : Bytes) (s : State) :
    ReturnsNoFrame (hostHandle h data s) := by
  cases h <;> nofun

theorem hostCycle_returnsNoFrame (r : Except BlockError (Option Bytes)) (s : State) :
    ReturnsNoFrame (hostCycle r s) := by
  unfold hostCycle
  split
  · nofun
  · nofun
  · split
    · nofun
    · exact hostHandle_returnsNoFrame _ _ _

theorem report_frame_ok {r : Except BlockError Frame} {s : State} {f : Frame}
    (h : (s.report .frame r).out = some (.ok (.frame f))) : r = .ok f := by
  cases r with
  | ok g => cases h; rfl
  | error e => cases h

theorem report_returnsNoFrame {α : Type} {value : α → Value} (hvalue : ∀ a f, value a ≠ .frame f)
    (r : Except BlockError α) (s : State) : ReturnsNoFrame (s.report value r) := by
  cases r with
  | ok a => exact fun f h => hvalue a f (Result.ok.inj (Option.some.inj h))
  | error e => nofun

/-- A Frame on the result port comes from construction, from decoding or from a change of payload. -/
theorem exec_out_frame {i : Instr} {s t : State} {f : Frame} (h : exec i s = .next t)
    (hout : t.out = some (.ok (.frame f))) :
    (∃ dst src ty payload, frameNew dst src ty payload = .ok f) ∨
      (∃ w, frameDecode w = .ok f) ∨
      ∃ g q suppress, i = .frameSetPayload g q suppress ∧ frameSetPayload g q suppress = .ok f := by
  cases i
  case frameNew | frameSetDst | frameSetSrc | frameSetType =>
    cases h; exact .inl ⟨_, _, _, _, report_frame_ok hout⟩
  case frameDecode => cases h; exact .inr (.inl ⟨_, report_frame_ok hout⟩)
  case frameSetPayload => cases h; exact .inr (.inr ⟨_, _, _, rfl, report_frame_ok hout⟩)
  case reset | crcInit | crcChecksum | frameEncode | frameIsValid | typeIpv4 | typeIpv6 | typeArp =>
    cases h; cases hout
  case crcUpdate | crcFinal =>
    simp only [exec, execCrcUpdate, execCrcFinal] at h
    split at h <;> cases h
    cases hout
  case msgPack | msgUnpack =>
    cases h; exact absurd hout (report_returnsNoFrame nofun _ _ _)
  case linkTx | hostSendCommand | responsePing | responseStartStream | responseStopStream |
      streamTelemetry | errorUnknownCmd =>
    cases h; exact absurd hout (runEmission_returnsNoFrame _ _ _)
  case cmdPing | cmdStartStream | cmdStopStream | cmdUnknown | devNotCommand =>
    cases h; exact absurd hout (runHandler_returnsNoFrame _ _ _)
  case evtResponse | evtStream | evtError | hostReject | errorBadPayload =>
    cases h; exact absurd hout (hostHandle_returnsNoFrame _ _ _ _)
  case linkRx =>
    simp only [exec, execLinkRx] at h
    split at h <;> cases h
    exact absurd hout (report_returnsNoFrame nofun _ _ _)
  case devPoll =>
    simp only [exec, execDevPoll] at h
    split at h <;> cases h
    exact absurd hout (devCycle_returnsNoFrame _ _ _)
  case hostPoll =>
    simp only [exec, execHostPoll] at h
    split at h <;> cases h
    exact absurd hout (hostCycle_returnsNoFrame _ _ _)

theorem frameNew_ok {dst src : Address} {ty : Word16} {payload : Bytes} {f : Frame}
    (h : frameNew dst src ty payload = .ok f) :
    f.WellFormed ∧ f = ⟨dst, src, ty, payload, frameCrc dst src ty payload⟩ := by
  obtain ⟨hmin, hmax, hnew⟩ | ⟨-, hnew⟩ := frameNew_cases dst src ty payload <;>
    rw [hnew] at h <;> cases h
  exact ⟨⟨hmin, hmax⟩, rfl⟩

theorem frameNew_ok_valid {dst src : Address} {ty : Word16} {payload : Bytes} {f : Frame}
    (h : frameNew dst src ty payload = .ok f) : frameValid f = true := by
  obtain ⟨-, rfl⟩ := frameNew_ok h
  exact (frameValid_iff _).2 rfl

theorem frameSetPayload_recompute_valid {g f : Frame} {q : Bytes}
    (h : frameSetPayload g q false = .ok f) : frameValid f = true := by
  by_cases hq : 46 ≤ q.length ∧ q.length ≤ 1500
  · rw [frameSetPayload_inBounds g false hq] at h
    cases h
    exact (frameValid_iff _).2 rfl
  · rw [frameSetPayload_outOfBounds g false hq] at h
    cases h

/-- Every Frame an operation returns is valid, but for `FRAME.SET_PAYLOAD` with `suppress = 1`. -/
theorem exec_out_frame_valid {i : Instr} {s t : State} {f : Frame} (h : exec i s = .next t)
    (hout : t.out = some (.ok (.frame f))) (hi : ∀ g q, i ≠ .frameSetPayload g q true) :
    frameValid f = true := by
  obtain ⟨_, _, _, _, hnew⟩ | ⟨_, hdec⟩ | ⟨g, q, suppress, rfl, hset⟩ := exec_out_frame h hout
  · exact frameNew_ok_valid hnew
  · obtain ⟨-, -, hvalid, -⟩ := frameDecode_ok hdec
    exact hvalid
  · cases suppress with
    | false => exact frameSetPayload_recompute_valid hset
    | true => exact absurd rfl (hi g q)

/-! ### The Frame of the examples (95_test_vectors.md, V-FRM-1) -/

theorem exampleFrame_crc :
    frameCrc ⟨2, 0, 0, 0, 0, 2⟩ ⟨2, 0, 0, 0, 0, 1⟩ 0x0800 (zeros 46) = 0xB42EE8A9 := by
  decide +kernel

end Sys2Proof.Machine

namespace Sys2Proof

open Machine

/-- Settles O17: the encoding less its last four bytes is the four chunks in order. -/
theorem frameChecksumCoversAllButItself : Obligations.FrameChecksumCoversAllButItself :=
  fun f => ⟨rfl, frameCrc_eq_crcChecksum_take f⟩

/-- Settles O19, by the length of an encoding and its decoding by validity. -/
theorem frameEncodeLayout : Obligations.FrameEncodeLayout := by
  refine ⟨fun p s f => ⟨rfl, frameEncode f, exec_frameEncode f s, rfl, frameEncode_length f,
    fun hwf => ?_, fun hwf hne => ?_⟩, fun s => rfl⟩
  · obtain ⟨hmin, hmax⟩ := hwf
    rw [frameEncode_length]
    exact ⟨Nat.add_le_add_right hmin 18, Nat.add_le_add_right hmax 18⟩
  · have hinvalid : ¬frameValid f = true := mt (frameValid_iff f).1 hne
    exact exec_frameDecode_error s (by rw [frameDecode_frameEncode hwf, if_neg hinvalid])

/-- Settles O20: each outcome of the decoder, with the parsed fields as R79 writes them. -/
theorem frameDecodeChecksInOrder : Obligations.FrameDecodeChecksInOrder := by
  refine ⟨fun p s w => ⟨rfl, ?_, rfl, rfl⟩, fun s => ⟨?_, ?_⟩, fun s => ?_⟩
  · by_cases hlt : w.length < 64
    · rw [if_pos hlt, exec_frameDecode_error s (if_pos hlt)]
    by_cases hgt : 1518 < w.length
    · rw [if_neg hlt, if_pos hgt, exec_frameDecode_error s ((if_neg hlt).trans (if_pos hgt))]
    · rw [if_neg hlt, if_neg hgt]
      have hsized := exec_frameDecode_sized s (Nat.le_of_not_lt hlt) (Nat.le_of_not_lt hgt)
        (frameFields_eq (by omega))
      exact hsized
  · exact exec_frameDecode_error s (by decide +kernel)
  · decide +kernel
  · exact exec_frameDecode_ok s (by decide +kernel)

/-- Settles O21: every operation that returns a Frame computes its checksum or has checked it, but
for `FRAME.SET_PAYLOAD` with `suppress = 1`, which keeps the checksum of the old payload. -/
theorem frameIsValidRecomputes : Obligations.FrameIsValidRecomputes := by
  refine ⟨fun p s f => ⟨rfl, rfl⟩, fun i s t f h hout hi => ?_, fun s f g q hvalid hset => ?_,
    fun s => ?_⟩
  · rw [exec_frameIsValid, exec_out_frame_valid h hout hi]
  · have hcrc := (frameValid_iff f).1 (frameValid_of_exec_frameIsValid hvalid)
    rw [exec_frameSetPayload_suppress_ok hset, exec_frameIsValid, ← hcrc]
    simp only [frameValid, beq_eq_decide, eq_comm]
  · rw [exec_frameIsValid, (frameValid_iff _).2 exampleFrame_crc.symm]

/-- Settles O26: the checksum depends on the type tag injectively, and exchanging two different
type bytes changes the tag and nothing else. -/
theorem swappedTypeBytesAreDetected : Obligations.SwappedTypeBytesAreDetected := by
  refine ⟨fun f hty => ?_, fun s dst src ty payload f t h hout => ?_, fun s f hwf hvalid hne => ?_⟩
  · rw [byteAt_frameEncode_12, byteAt_frameEncode_13, hty]
    decide
  · cases h
    obtain ⟨hwf, hf⟩ := frameNew_ok (report_frame_ok hout)
    have hvalid : frameValid f = true := frameNew_ok_valid (report_frame_ok hout)
    have hdec : frameDecode (frameEncode f) = .ok f := by
      rw [frameDecode_frameEncode hwf, if_pos hvalid]
    exact ⟨_, f, exec_frameDecode_ok s hdec, rfl, by rw [hf]⟩
  · rw [frameEncode_exchange_type_bytes]
    have hwf' : Frame.WellFormed { f with typeTag := swapBytes f.typeTag } := hwf
    refine exec_frameDecode_error s ?_
    rw [frameDecode_frameEncode hwf', frameValid_swapBytes_eq_false hvalid hne]
    rfl

/-- Settles O18, by the effect of `FRAME.NEW`. -/
theorem frameNewChecksBoundAndSeals : Obligations.FrameNewChecksBoundAndSeals :=
  ⟨fun _ s dst src ty payload => ⟨rfl, exec_frameNew dst src ty payload s, rfl⟩,
    fun s => exec_frameNew_seals s (by decide) exampleFrame_crc⟩

/-- Settles O22: each mutator is `FRAME.NEW` on the new fields, which seals them within the bound. -/
theorem frameMutatorsReseal : Obligations.FrameMutatorsReseal := by
  refine ⟨fun p s f a ty => ⟨rfl, rfl, rfl, ?_⟩, fun s => ?_⟩
  · simp only [exec_frameSetDst, exec_frameSetSrc, exec_frameSetType]
    split_ifs with h
    · exact ⟨exec_frameNew_refuses _ _ _ s h, exec_frameNew_refuses _ _ _ s h,
        exec_frameNew_refuses _ _ _ s h⟩
    · refine ⟨exec_frameNew_seals s h rfl, exec_frameNew_seals s h rfl,
        exec_frameNew_seals s h rfl, fun hvalid => ?_⟩
      have hown := exec_frameNew_seals s h hvalid.symm
      exact ⟨hown, hown, hown⟩
  · have hbound : ¬((zeros 46).length < 46 ∨ 1500 < (zeros 46).length) := by decide
    exact ⟨exec_frameNew_seals s hbound (by decide +kernel),
      exec_frameNew_seals s hbound (by decide +kernel),
      exec_frameNew_seals s hbound (by decide +kernel),
      exec_frameNew_seals s hbound (by decide +kernel)⟩

end Sys2Proof
end

section
/-! SUPPORT and SETTLEMENTS. The message codec (spec/42_message_codec.md): the length field as two
bytes, the answer of `MSG.UNPACK` as a function of the length field and of header and rest, what
each operation drives, and the obligations about them. -/

namespace Sys2Proof.Machine

/-! ### The length field as numbers (R31, R49) -/

theorem extractLsb'_low_byte_ofNat (n : Nat) :
    (BitVec.ofNat 16 n).extractLsb' 0 8 = BitVec.ofNat 8 (n % 256) := by
  apply BitVec.eq_of_toNat_eq
  simp only [BitVec.extractLsb'_toNat, BitVec.toNat_ofNat, Nat.shiftRight_zero]
  omega

theorem extractLsb'_high_byte_ofNat (n : Nat) :
    (BitVec.ofNat 16 n).extractLsb' 8 8 = BitVec.ofNat 8 (n / 256) := by
  apply BitVec.eq_of_toNat_eq
  simp only [BitVec.extractLsb'_toNat, BitVec.toNat_ofNat, Nat.shiftRight_eq_div_pow]
  omega

theorem le16_ofNat (n : Nat) :
    le16 (BitVec.ofNat 16 n) = [BitVec.ofNat 8 (n % 256), BitVec.ofNat 8 (n / 256)] := by
  rw [le16, extractLsb'_low_byte_ofNat, extractLsb'_high_byte_ofNat]

theorem be16_ofNat (n : Nat) :
    be16 (BitVec.ofNat 16 n) = [BitVec.ofNat 8 (n / 256), BitVec.ofNat 8 (n % 256)] := by
  rw [be16, extractLsb'_low_byte_ofNat, extractLsb'_high_byte_ofNat]

theorem toNat_append_byte (a b : Byte) : (a ++ b).toNat = 256 * a.toNat + b.toNat := by
  rw [BitVec.toNat_append, ← Nat.shiftLeft_add_eq_or_of_lt b.isLt, Nat.shiftLeft_eq, Nat.mul_comm]

theorem toNat_le16At (b : Bytes) (i : Nat) :
    (le16At b i).toNat = (byteAt b i).toNat + 256 * (byteAt b (i + 1)).toNat :=
  (toNat_append_byte _ _).trans (Nat.add_comm _ _)

theorem toNat_be16At (b : Bytes) (i : Nat) :
    (be16At b i).toNat = 256 * (byteAt b i).toNat + (byteAt b (i + 1)).toNat :=
  toNat_append_byte _ _

theorem len16At_skip (order : LenOrder) (a : Bytes) (v : Word16) (rest : Bytes) :
    len16At order (a ++ (len16 order v ++ rest)) a.length = v := by
  have h0 := byteAt_skip a (len16 order v ++ rest) 0
  rw [Nat.add_zero] at h0
  cases order <;> simp only [len16At, le16At, be16At, byteAt_skip, h0] <;> exact word16_join v

/-! ### `MSG.UNPACK` by the length field, and by header and rest -/

theorem slice_to_length (b : Bytes) (lo : Nat) : slice b lo b.length = b.drop lo :=
  List.take_of_length_le (by simp)

/-- Past the first check, `MSG.UNPACK` answers by the number in the length field (R93). -/
theorem msgUnpack_of_length_field {order : LenOrder} {b : Bytes} {len : Nat} (hb : 4 ≤ b.length)
    (hlen : (len16At order b 2).toNat = len) :
    msgUnpack order b = if b.length - 4 < len then .error (.lengthExceedsBuffer len b.length)
      else .ok ⟨byteAt b 0, byteAt b 1, BitVec.ofNat 16 len, b.drop (b.length - len)⟩ := by
  subst hlen
  obtain ⟨hshort, -⟩ | ⟨-, hexceeds, h⟩ | ⟨-, hfits, h⟩ := msgUnpack_cases order b
  · omega
  · rw [h, if_pos hexceeds]
  · rw [h, if_neg (Nat.not_lt.2 hfits), slice_to_length, BitVec.ofNat_toNat, BitVec.setWidth_eq]

/-- A header in the byte order of the reader, and whatever stands behind it. -/
theorem msgUnpack_header_append (order : LenOrder) (kind id : Byte) (v : Word16) (rest : Bytes) :
    msgUnpack order ([kind, id] ++ (len16 order v ++ rest)) =
      if rest.length < v.toNat then .error (.lengthExceedsBuffer v.toNat (4 + rest.length))
      else .ok ⟨kind, id, v, rest.drop (rest.length - v.toNat)⟩ := by
  have hlength : ([kind, id] ++ (len16 order v ++ rest)).length = 4 + rest.length := by
    simp; omega
  have hfield := len16At_skip order [kind, id] v rest
  rw [msgUnpack_of_length_field (by omega) (congrArg BitVec.toNat hfield), hlength,
    Nat.add_sub_cancel_left]
  split_ifs with hexceeds
  · rfl
  · have hheader : ([kind, id] ++ len16 order v).length = 4 := by simp
    have hdrop : ([kind, id] ++ (len16 order v ++ rest)).drop (4 + rest.length - v.toNat) =
        rest.drop (rest.length - v.toNat) := by
      rw [← List.append_assoc, Nat.add_sub_assoc (Nat.le_of_not_lt hexceeds), ← hheader,
        List.drop_length_add_append]
    rw [hdrop, BitVec.ofNat_toNat, BitVec.setWidth_eq]
    rfl

/-! ### Unpacking a packed Message (R96) -/

/-- A packed Message as its header and what stands behind it (R48). -/
theorem packedMessage_eq_header_append (order : LenOrder) (kind id : Byte) (data : Bytes) :
    packedMessage order kind id data = [kind, id] ++
      (len16 order (BitVec.ofNat 16 data.length) ++ (zeros (42 - data.length) ++ data)) := by
  simp only [packedMessage, List.append_assoc]

theorem toNat_ofNat_length {data : Bytes} (h : data.length ≤ 65535) :
    (BitVec.ofNat 16 data.length).toNat = data.length :=
  (BitVec.toNat_ofNat _ _).trans (Nat.mod_eq_of_lt (Nat.lt_succ_of_le h))

/-- The data is recovered from behind whatever padding there is. -/
theorem msgUnpack_packedMessage (order : LenOrder) (kind id : Byte) {data : Bytes}
    (h : data.length ≤ 65535) :
    msgUnpack order (packedMessage order kind id data) =
      .ok ⟨kind, id, BitVec.ofNat 16 data.length, data⟩ := by
  have hfits : ¬(zeros (42 - data.length) ++ data).length < data.length := by simp
  rw [packedMessage_eq_header_append, msgUnpack_header_append, toNat_ofNat_length h, if_neg hfits,
    List.length_append, Nat.add_sub_cancel, List.drop_left]

/-- Without padding, a missing last byte leaves one byte less than the length field says. -/
theorem msgUnpack_packedMessage_dropLast (order : LenOrder) (kind id : Byte) {data : Bytes}
    (hmin : 42 ≤ data.length) (hmax : data.length ≤ 65535) :
    msgUnpack order (packedMessage order kind id data).dropLast =
      .error (.lengthExceedsBuffer data.length (data.length + 3)) := by
  have hdata : data ≠ [] := List.ne_nil_of_length_pos (by omega)
  have hpad : zeros (42 - data.length) = [] := by rw [Nat.sub_eq_zero_of_le hmin]; rfl
  have hshort : data.dropLast.length < data.length := by rw [List.length_dropLast]; omega
  have htotal : 4 + data.dropLast.length = data.length + 3 := by rw [List.length_dropLast]; omega
  rw [packedMessage_eq_header_append, hpad, List.nil_append, ← List.append_assoc,
    List.dropLast_append_of_ne_nil hdata, List.append_assoc, msgUnpack_header_append,
    toNat_ofNat_length hmax, if_pos hshort, htotal]

/-! ### What each message operation drives -/

theorem exec_msgPack_fits (kind id : Byte) {data : Bytes} (s : State) (h : data.length ≤ 65535) :
    exec (.msgPack kind id data) s =
      .next (drives s (.ok (.bytes (packedMessage s.cfg.lenOrder kind id data)))) := by
  change Host.Outcome.next (s.report .bytes (msgPack s.cfg.lenOrder kind id data)) = _
  rw [msgPack_fits _ _ _ h]; rfl

theorem exec_msgPack_tooLarge (kind id : Byte) {data : Bytes} (s : State)
    (h : 65535 < data.length) :
    exec (.msgPack kind id data) s = .next (drives s (.err (.dataTooLarge data.length))) := by
  change Host.Outcome.next (s.report .bytes (msgPack s.cfg.lenOrder kind id data)) = _
  rw [msgPack_tooLarge _ _ _ h]; rfl

theorem exec_msgUnpack (b : Bytes) (s : State) :
    exec (.msgUnpack b) s = .next (s.report .message (msgUnpack s.cfg.lenOrder b)) := rfl

theorem exec_msgUnpack_ok {b : Bytes} {m : Message} {s : State}
    (h : msgUnpack s.cfg.lenOrder b = .ok m) :
    exec (.msgUnpack b) s = .next (drives s (.ok (.message m))) := by
  rw [exec_msgUnpack, h]; rfl

theorem exec_msgUnpack_error {b : Bytes} {e : BlockError} {s : State}
    (h : msgUnpack s.cfg.lenOrder b = .error e) :
    exec (.msgUnpack b) s = .next (drives s (.err e)) := by
  rw [exec_msgUnpack, h]; rfl

/-- Past the first check, `MSG.UNPACK` drives its answer by the number in the length field (R93). -/
theorem exec_msgUnpack_of_length_field {b : Bytes} {len : Nat} {s : State} (hb : 4 ≤ b.length)
    (hlen : (len16At s.cfg.lenOrder b 2).toNat = len) :
    exec (.msgUnpack b) s = .next (drives s
      (if b.length - 4 < len then .err (.lengthExceedsBuffer len b.length)
      else .ok (.message
        ⟨byteAt b 0, byteAt b 1, BitVec.ofNat 16 len, b.drop (b.length - len)⟩))) := by
  rw [exec_msgUnpack, msgUnpack_of_length_field hb hlen]
  split_ifs <;> rfl

/-- What `MSG.PACK` answers is never shorter than the least Frame payload (R92). -/
theorem length_of_exec_msgPack {kind id : Byte} {data w : Bytes} {s : State}
    (h : exec (.msgPack kind id data) s = .next (drives s (.ok (.bytes w)))) :
    46 ≤ w.length := by
  by_cases hfits : data.length ≤ 65535
  · rw [exec_msgPack_fits kind id s hfits] at h
    cases h
    rw [packedMessage_length]
    exact Nat.le_max_left 46 _
  · rw [exec_msgPack_tooLarge kind id s (Nat.lt_of_not_le hfits)] at h
    cases h

end Sys2Proof.Machine

namespace Sys2Proof

open Machine

/-- Settles O30: both unpackings are read off header and rest. For the converse, a header alone
unpacks to a Message without data, which packs to 46 bytes. -/
theorem msgRoundTrip : Obligations.MsgRoundTrip := by
  refine ⟨fun s kind id data h => ?_, fun s => ?_⟩
  · exact ⟨_, exec_msgPack_fits kind id s h,
      exec_msgUnpack_ok (msgUnpack_packedMessage _ kind id h),
      fun hmin => exec_msgUnpack_error (msgUnpack_packedMessage_dropLast _ kind id hmin h)⟩
  · refine ⟨[0, 0, 0, 0], ⟨0, 0, 0, []⟩, exec_msgUnpack_ok ?_, fun h => ?_⟩
    · cases s.cfg.lenOrder <;> rfl
    · exact absurd (length_of_exec_msgPack h) (by decide)

/-- Settles O28, by the layout of a packed Message with its length field as two numbers. -/
theorem msgPackPadsBeforeData : Obligations.MsgPackPadsBeforeData := by
  refine ⟨fun p s kind id data => ⟨rfl, ?_⟩, fun s hle => ?_⟩
  · split_ifs with h
    · exact ⟨exec_msgPack_tooLarge kind id s h, rfl⟩
    · refine ⟨_, exec_msgPack_fits kind id s (Nat.le_of_not_lt h), ?_, packedMessage_length _ _ _ _⟩
      cases s.cfg.lenOrder
      · rw [packedMessage, len16, le16_ofNat]; rfl
      · rw [packedMessage, len16, be16_ofNat]; rfl
  · rw [exec_msgPack_fits _ _ s (by decide), hle]
    rfl

/-- Settles O29: the length check, then the answer by the number in the length field. -/
theorem msgUnpackTakesTail : Obligations.MsgUnpackTakesTail := by
  refine ⟨fun p s b => ⟨rfl, ?_, fun n k => ⟨rfl, rfl⟩⟩, fun s hle => ?_⟩
  · by_cases hshort : b.length < 4
    · rw [if_pos hshort]
      exact exec_msgUnpack_error (if_pos hshort)
    · rw [if_neg hshort]
      refine exec_msgUnpack_of_length_field (Nat.le_of_not_lt hshort) ?_
      cases s.cfg.lenOrder
      · exact toNat_le16At b 2
      · exact toNat_be16At b 2
  · exact exec_msgUnpack_ok (by rw [hle]; rfl)

end Sys2Proof
end

section
/-! SUPPORT and SETTLEMENTS. The Host's send operation (spec/43_dispatch_router.md section 4): the
COMMAND of the examples on the wire, what `HOST.SEND_COMMAND` drives for each size of data, and the
obligation about it. -/

namespace Sys2Proof.Machine

/-! ### A Message without data on the wire -/

/-- Without data the length field is zero in either byte order. -/
theorem packedMessage_nil (order : LenOrder) (kind id : Byte) :
    packedMessage order kind id [] = [kind, id, 0x00, 0x00] ++ zeros 42 := by
  cases order <;> rfl

theorem frameCrc_ping :
    frameCrc ⟨2, 0, 0, 0, 0, 2⟩ ⟨2, 0, 0, 0, 0, 1⟩ 0x0800 ([0x01, 0x01, 0x00, 0x00] ++ zeros 42) =
      0x68715B76 := by
  decide +kernel

/-- The Frame that carries PING between the test addresses (R114, the example). -/
theorem sentFrame_ping {cfg : Cfg} (hhost : cfg.hostAddr = ⟨2, 0, 0, 0, 0, 1⟩)
    (hdevice : cfg.deviceAddr = ⟨2, 0, 0, 0, 0, 2⟩) (htype : cfg.linkType = 0x0800) :
    sentFrame cfg .host 0x01 0x01 [] =
      [0x02, 0x00, 0x00, 0x00, 0x00, 0x02, 0x02, 0x00, 0x00, 0x00, 0x00, 0x01, 0x08, 0x00,
        0x01, 0x01, 0x00, 0x00] ++ List.replicate 42 0x00 ++ [0x76, 0x5B, 0x71, 0x68] := by
  rw [sentFrame, packedMessage_nil, carriedFrame, peerAddr, localAddr, hhost, hdevice, htype,
    frameCrc_ping]
  rfl

/-! ### What `HOST.SEND_COMMAND` drives -/

theorem exec_hostSendCommand_ok {id : Byte} {data : Bytes} {s t : State}
    (h : sendMessage .host kindCommand id data s = .ok t) :
    exec (.hostSendCommand id data) s = .next (drives t (.ok .none)) := by
  change Host.Outcome.next (runEmission (sendMessage .host kindCommand id data s) s) = _
  rw [h]; rfl

theorem exec_hostSendCommand_error {id : Byte} {data : Bytes} {s : State} {e : BlockError}
    (h : sendMessage .host kindCommand id data s = .error e) :
    exec (.hostSendCommand id data) s = .next (drives s (.err e)) := by
  change Host.Outcome.next (runEmission (sendMessage .host kindCommand id data s) s) = _
  rw [h]; rfl

/-- A COMMAND short enough for one Frame is appended to the Host-to-Device channel. -/
theorem exec_hostSendCommand_fits (id : Byte) {data : Bytes} (s : State)
    (h : data.length ≤ 1496) :
    exec (.hostSendCommand id data) s =
      .next (drives { s with h2d := s.h2d ++ [sentFrame s.cfg .host 0x01 id data] } (.ok .none)) :=
  exec_hostSendCommand_ok (sendMessage_fits .host kindCommand id s h)

end Sys2Proof.Machine

namespace Sys2Proof

open Machine

/-- Settles O44: one case for each range of the data's length, and the example by its bytes. -/
theorem hostSendCommandAppendsOneFrame : Obligations.HostSendCommandAppendsOneFrame := by
  refine ⟨fun p s id data => ⟨rfl, ?_⟩, fun s hhost hdevice htype => ?_⟩
  · by_cases hlarge : 65535 < data.length
    · rw [if_pos hlarge]
      exact exec_hostSendCommand_error (sendMessage_tooLarge .host kindCommand id s hlarge)
    by_cases hlong : 1496 < data.length
    · rw [if_neg hlarge, if_pos hlong]
      exact exec_hostSendCommand_error
        (sendMessage_tooLong .host kindCommand id s hlong (Nat.le_of_not_lt hlarge))
    · rw [if_neg hlarge, if_neg hlong]
      exact exec_hostSendCommand_fits id s (Nat.le_of_not_lt hlong)
  · rw [exec_hostSendCommand_fits 0x01 s (by decide), sentFrame_ping hhost hdevice htype]

end Sys2Proof
end

section
/-! SUPPORT and SETTLEMENTS. The decoder (spec/30_encoding.md sections 5 and 7): what a listed and
an unlisted operation-select code and each role's router select, what a step does with the first
request, and the obligations about them. -/

namespace Sys2Proof.Machine

/-! ### The operation-select codes (R61) -/

/-- The twenty codes the table R61 lists. -/
def listedCodes : List Nat :=
  [0x00, 0x01, 0x02, 0x03, 0x04, 0x08, 0x09, 0x0A, 0x0B, 0x0C, 0x0D, 0x0E, 0x0F, 0x10, 0x11, 0x14,
    0x15, 0x18, 0x1C, 0x1D]

theorem decodeOp_of_listed {code : BitVec 5} (ports : Ports) (h : code.toNat ∈ listedCodes) :
    ∃ i, decodeOp code ports = .ok i := by
  unfold decodeOp
  split
  case h_21 => simp_all [listedCodes]
  all_goals exact ⟨_, rfl⟩

theorem decodeOp_of_unlisted {code : BitVec 5} (ports : Ports) (h : code.toNat ∉ listedCodes) :
    decodeOp code ports = .error (.unlistedOp code) := by
  unfold decodeOp
  split
  case h_21 => rfl
  all_goals
    rename_i hcode
    exact absurd (hcode ▸ by decide) h

theorem decodeOp_not_named {code : BitVec 5} {ports : Ports} {i : Instr}
    (h : decodeOp code ports = .ok i) : ¬IsNamedMessage i := by
  unfold decodeOp at h
  split at h <;> cases h <;> exact not_false

/-! ### The routers (R64) -/

theorem decodeHeader_device (kind id : Byte) (data : Bytes) :
    decodeHeader .device (headerWord kind id) data =
      if kind = 0x01 then
        if id = 0x01 then .cmdPing data
        else if id = 0x02 then .cmdStartStream data
        else if id = 0x03 then .cmdStopStream data
        else .cmdUnknown id data
      else .devNotCommand kind id data := by
  rw [decodeHeader, devHeader_headerWord]
  split_ifs <;> rfl

theorem decodeHeader_host (kind id : Byte) (data : Bytes) :
    decodeHeader .host (headerWord kind id) data =
      if kind = 0x02 then .evtResponse id data
      else if kind = 0x03 then .evtStream id data
      else if kind = 0x04 then .evtError id data
      else .hostReject kind id data := by
  rw [decodeHeader, hostHeader_headerWord]
  split_ifs <;> rfl

theorem decodeHeader_not_named (receiver : Role) (w : Word16) (data : Bytes) :
    ¬IsNamedMessage (decodeHeader receiver w data) := by
  cases receiver with
  | device => cases h : devHeader w <;> simp [decodeHeader, h, IsNamedMessage]
  | host => cases h : hostHeader w <;> simp [decodeHeader, h, IsNamedMessage]

/-! ### The type tags (R47) -/

theorem decodeTag_not_named {p : Params} {w : Word16} {i : Instr} (h : decodeTag p w = .ok i) :
    ¬IsNamedMessage i := by
  unfold decodeTag at h
  split_ifs at h <;> cases h <;> exact not_false

/-! ### Decode of encode -/

theorem decode_encode_cmdUnknown (p : Params) {id : Byte} (data : Bytes) (h : IsUnknownCommand id) :
    decode p (encode p (.cmdUnknown id data)) = .ok (.cmdUnknown id data) := by
  obtain ⟨h1, h2, h3⟩ := h
  refine congrArg Except.ok ((decodeHeader_device 0x01 id data).trans ?_)
  rw [if_pos rfl, if_neg h1, if_neg h2, if_neg h3]

theorem decode_encode_hostReject (p : Params) {kind : Byte} (id : Byte) (data : Bytes)
    (h : HostRejects kind) :
    decode p (encode p (.hostReject kind id data)) = .ok (.hostReject kind id data) := by
  obtain ⟨h2, h3, h4⟩ := h
  refine congrArg Except.ok ((decodeHeader_host kind id data).trans ?_)
  rw [if_neg h2, if_neg h3, if_neg h4]

/-- Decode of encode, for every instruction a request can select. -/
theorem decode_encode {p : Params} {i : Instr} (htags : p.TagsDistinct) (hwf : i.wellFormed = true)
    (hi : ¬IsNamedMessage i) : decode p (encode p i) = .ok i := by
  obtain ⟨h46, h4A, h6A⟩ := htags
  cases i
  case cmdPing data => exact congrArg Except.ok (decodeHeader_device 0x01 0x01 data)
  case cmdStartStream data => exact congrArg Except.ok (decodeHeader_device 0x01 0x02 data)
  case cmdStopStream data => exact congrArg Except.ok (decodeHeader_device 0x01 0x03 data)
  case cmdUnknown id data => exact decode_encode_cmdUnknown p data (of_decide_eq_true hwf).1
  case devNotCommand kind id data =>
    exact congrArg Except.ok
      ((decodeHeader_device kind id data).trans (if_neg (of_decide_eq_true hwf).1))
  case evtResponse id data => exact congrArg Except.ok (decodeHeader_host 0x02 id data)
  case evtStream id data => exact congrArg Except.ok (decodeHeader_host 0x03 id data)
  case evtError id data => exact congrArg Except.ok (decodeHeader_host 0x04 id data)
  case hostReject kind id data => exact decode_encode_hostReject p id data (of_decide_eq_true hwf).1
  case responsePing | responseStartStream | responseStopStream | streamTelemetry |
      errorUnknownCmd | errorBadPayload => exact absurd trivial hi
  case typeIpv4 => exact if_pos rfl
  case typeIpv6 => exact (if_neg h46.symm).trans (if_pos rfl)
  case typeArp => exact (if_neg h4A.symm).trans ((if_neg h6A.symm).trans (if_pos rfl))
  all_goals rfl

/-! ### A step by its first request -/

theorem step_of_decode_ok {s : State} {r : Request} {rest : List Request} {i : Instr}
    (hpending : s.pending = r :: rest) (hdecode : decode s.params r = .ok i) :
    step s = exec i { s with pending := rest } := by
  simp only [step, fetchRequest, hpending, hdecode]

theorem step_of_decode_error {s : State} {r : Request} {rest : List Request} {e : DecodeRefusal}
    (hpending : s.pending = r :: rest) (hdecode : decode s.params r = .error e) :
    step s = .refused (refusalOf e) := by
  simp only [step, fetchRequest, hpending, hdecode]

theorem step_of_idle {s : State} (h : s.pending = []) :
    step s = .next { s with out := none, event := none } := by
  simp only [step, fetchRequest, h]

end Sys2Proof.Machine

namespace Sys2Proof

open Machine

/-- Settles O5, by one case for each instruction; the named Messages stand at the Host's router by
their kinds. -/
theorem decodeInvertsEncode : Obligations.DecodeInvertsEncode :=
  ⟨fun _ _ => decode_encode, fun _ data =>
    ⟨congrArg Except.ok (decodeHeader_host 0x02 0x01 _),
      congrArg Except.ok (decodeHeader_host 0x02 0x02 _),
      congrArg Except.ok (decodeHeader_host 0x02 0x03 _),
      congrArg Except.ok (decodeHeader_host 0x03 0x01 _),
      congrArg Except.ok (decodeHeader_host 0x04 0x01 _),
      congrArg Except.ok (decodeHeader_host 0x04 0x02 data)⟩⟩

/-- Settles O4: the decoder answers by the list of codes, the step by what the decoder answers. -/
theorem unlistedCodesAreRefused : Obligations.UnlistedCodesAreRefused := by
  intro s code ports rest hpending
  split_ifs with hcode
  · obtain ⟨i, hi⟩ := decodeOp_of_listed ports hcode
    exact ⟨i, hi, step_of_decode_ok hpending hi⟩
  · exact step_of_decode_error hpending (decodeOp_of_unlisted ports hcode)

/-- Settles O6, by the three forms of a request. -/
theorem namedMessagesAreNeverSelected : Obligations.NamedMessagesAreNeverSelected := by
  intro p r i h
  cases r with
  | op code ports => exact decodeOp_not_named h
  | header receiver w data => cases h; exact decodeHeader_not_named receiver w data
  | tag w => exact decodeTag_not_named h

/-- Settles O8, by what the rows of each router select. -/
theorem routersDispatchByKindAndCommand : Obligations.RoutersDispatchByKindAndCommand :=
  fun kind id data => ⟨decodeHeader_device kind id data, decodeHeader_host kind id data⟩

/-- Settles O3, by what stands at the command port. -/
theorem stepRunsDecodedOperation : Obligations.StepRunsDecodedOperation :=
  fun _ => ⟨step_of_idle, fun _ _ _ => step_of_decode_ok, fun _ _ _ => step_of_decode_error⟩

/-- Settles O7, by evaluating the decoder on the words. -/
theorem tableWordsDecode : Obligations.TableWordsDecode := by
  unfold Obligations.TableWordsDecode
  decide

end Sys2Proof
end

section
/-! SUPPORT and SETTLEMENTS. The laws of the CRC-32 generator (spec/40_crc32.md sections 1 and 3):
the table step is eight bit-serial steps, an update is linear, the residue, and the obligations
about them. -/

namespace Sys2Proof.Machine

/-! ### The table step is bit-serial (40_crc32.md section 3) -/

theorem crcShift_eq_if_and_one (c : Word32) :
    crcShift c = if c &&& 1 = 1 then (c >>> 1) ^^^ 0xEDB88320 else c >>> 1 := by
  have hbit : c.getLsbD 0 = true ↔ c &&& 1 = 1 := by
    rw [show (1 : Word32) = 1#32 from rfl, BitVec.and_one_eq_setWidth_ofBool_getLsbD]
    cases c.getLsbD 0 <;> decide
  simp only [crcShift, hbit]

/-- A loop step undoes a shift left by one that loses no bit. -/
theorem crcShift_shiftLeft_one {c : Word32} (h : c.toNat < 2 ^ 31) : crcShift (c <<< 1) = c := by
  have hback : c <<< 1 >>> 1 = c := by
    apply BitVec.eq_of_toNat_eq
    simp only [BitVec.toNat_ushiftRight, BitVec.toNat_shiftLeft, Nat.shiftRight_eq_div_pow,
      Nat.shiftLeft_eq]
    omega
  rw [crcShift, BitVec.getLsbD_shiftLeft]
  exact (if_neg (by simp)).trans hback

/-- `n` loop steps undo a shift left by `n` that loses no bit. -/
theorem crcShifts_shiftLeft (n : Nat) {c : Word32} (h : c.toNat * 2 ^ n < 2 ^ 32) :
    crcShifts n (c <<< n) = c := by
  induction n with
  | zero => exact BitVec.shiftLeft_zero c
  | succ n ih =>
    rw [Nat.pow_succ, ← Nat.mul_assoc] at h
    have hn : c.toNat * 2 ^ n < 2 ^ 31 := by omega
    have hshift : (c <<< n).toNat < 2 ^ 31 := by
      rw [BitVec.toNat_shiftLeft, Nat.shiftLeft_eq]
      exact (Nat.mod_le _ _).trans_lt hn
    rw [BitVec.shiftLeft_add, crcShifts_succ, crcShift_shiftLeft_one hshift, ih (by omega)]

/-- An accumulator as its upper three bytes and its low byte. -/
theorem word32_eq_upper_xor_low (v : Word32) :
    v = (v >>> 8 <<< 8) ^^^ (v.truncate 8).zeroExtend 32 := by
  ext j hj
  by_cases h8 : j < 8
  · simp [h8, BitVec.getLsbD_eq_getElem hj]
  · simp [h8, show 8 + (j - 8) = j by omega, BitVec.getLsbD_eq_getElem hj]

theorem crcUpdate_eq_crcBitSerial (acc : Word32) (b : Byte) :
    crcUpdate acc b = crcBitSerial acc b := by
  have hupper : (acc >>> 8).toNat * 2 ^ 8 < 2 ^ 32 := by
    rw [BitVec.toNat_ushiftRight, Nat.shiftRight_eq_div_pow]
    omega
  have hsplit : acc ^^^ b.zeroExtend 32 =
      (acc >>> 8 <<< 8) ^^^ (acc.truncate 8 ^^^ b).zeroExtend 32 := by
    rw [BitVec.zeroExtend_eq_setWidth, BitVec.zeroExtend_eq_setWidth, BitVec.setWidth_xor,
      ← BitVec.xor_assoc]
    exact congrArg (· ^^^ b.setWidth 32) (word32_eq_upper_xor_low acc)
  rw [crcBitSerial, hsplit, crcShifts_xor, crcShifts_shiftLeft 8 hupper, crcUpdate, crcTbl]

/-! ### An update is linear -/

theorem crcUpdate_xor (acc acc' : Word32) (b b' : Byte) :
    crcUpdate (acc ^^^ acc') (b ^^^ b') = crcUpdate acc b ^^^ crcUpdate acc' b' := by
  have hindex : (acc ^^^ acc').truncate 8 ^^^ (b ^^^ b') =
      (acc.truncate 8 ^^^ b) ^^^ (acc'.truncate 8 ^^^ b') := by
    simp only [BitVec.truncate_eq_setWidth, BitVec.setWidth_xor]
    ac_rfl
  rw [crcUpdate, crcUpdate, crcUpdate, hindex, crcTbl_xor, BitVec.ushiftRight_xor_distrib]
  ac_rfl

/-- Four bytes are taken in as one word, linearly. -/
theorem crcRun_le32_xor (acc acc' v v' : Word32) :
    crcRun (acc ^^^ acc') (le32 (v ^^^ v')) = crcRun acc (le32 v) ^^^ crcRun acc' (le32 v') := by
  simp only [crcRun, le32, List.foldl_cons, List.foldl_nil, BitVec.extractLsb'_xor, crcUpdate_xor]

theorem truncate_ushiftRight (v : Word32) (k : Nat) :
    (v >>> k).truncate 8 = v.extractLsb' k 8 := by
  ext j hj
  simp

/-- Each byte of the accumulator, taken in when it has become the low byte, only shifts it out. -/
theorem crcUpdate_own_byte (acc : Word32) (k : Nat) :
    crcUpdate (acc >>> k) (acc.extractLsb' k 8) = acc >>> (k + 8) := by
  have hzero : crcTbl 0 = 0 := by decide
  rw [crcUpdate, truncate_ushiftRight, BitVec.xor_self, ← BitVec.shiftRight_add]
  exact (congrArg _ hzero).trans BitVec.xor_zero

/-- An accumulator followed by its own bytes ends at zero. -/
theorem crcRun_le32_self (acc : Word32) : crcRun acc (le32 acc) = 0 := by
  have hfirst : crcUpdate acc (acc.extractLsb' 0 8) = acc >>> 8 := crcUpdate_own_byte acc 0
  simp only [crcRun, le32, List.foldl_cons, List.foldl_nil, hfirst, crcUpdate_own_byte]
  exact BitVec.ushiftRight_eq_zero (Nat.le_refl 32)

/-! ### The residue (40_crc32.md section 3, property b) -/

theorem crcChecksum_append_checksum (m : Bytes) :
    crcChecksum [m ++ le32 (crcChecksum [m])] = 0x2144DF1C := by
  have hones : crcFinish (crcRun 0 (le32 crcXorOut)) = 0x2144DF1C := by decide
  have hsum : crcChecksum [m] = crcRun crcInitValue m ^^^ crcXorOut := rfl
  have hcancel : crcRun (crcRun crcInitValue m) (le32 (crcRun crcInitValue m ^^^ crcXorOut)) =
      crcRun 0 (le32 crcXorOut) := by
    have hlin := crcRun_le32_xor (crcRun crcInitValue m) 0#32 (crcRun crcInitValue m) crcXorOut
    rw [BitVec.xor_zero, crcRun_le32_self] at hlin
    exact hlin.trans BitVec.zero_xor
  rw [← hones, ← hcancel, ← hsum, ← crcRun_append]
  rfl

/-- Two byte strings that differ in one byte have different checksums. -/
theorem crcChecksum_byte_injective {pre post : Bytes} {b b' : Byte}
    (h : crcChecksum [pre ++ b :: post] = crcChecksum [pre ++ b' :: post]) : b = b' := by
  have hrun : crcRun crcInitValue (pre ++ b :: post) = crcRun crcInitValue (pre ++ b' :: post) :=
    (BitVec.xor_left_inj _).1 h
  rw [crcRun_append, crcRun_append] at hrun
  obtain ⟨-, hindex⟩ := crcUpdate_inj (crcRun_acc_injective post hrun)
  exact (BitVec.xor_right_inj _).1 hindex

/-- A change of one byte changes the checksum. -/
theorem crcChecksum_modify_ne {w : Bytes} {k : Nat} {mask : Byte} (hk : k < w.length)
    (hmask : mask ≠ 0) : crcChecksum [w.modify k (· ^^^ mask)] ≠ crcChecksum [w] := by
  intro h
  have hw : crcChecksum [w] = crcChecksum [w.take k ++ w[k] :: w.drop (k + 1)] := by simp
  rw [List.modify_eq_take_cons_drop hk, hw] at h
  have hsame : w[k] ^^^ mask = w[k] ^^^ 0#8 :=
    (crcChecksum_byte_injective h).trans BitVec.xor_zero.symm
  exact hmask ((BitVec.xor_right_inj _).1 hsame)

end Sys2Proof.Machine

namespace Sys2Proof

open Machine

/-- Settles O14: the chunks enter `CRC.CHECKSUM` through their bytes in order. -/
theorem crcChunksEqualConcatenation : Obligations.CrcChunksEqualConcatenation :=
  fun chunks s => exec_crcChecksum_congr (by simp) s

/-- Settles O15, by the table step as eight bit-serial steps. -/
theorem crcTableStepIsBitSerial : Obligations.CrcTableStepIsBitSerial := by
  intro s b hready
  have hstep := exec_crcUpdate_ready b hready
  rw [crcUpdate_eq_crcBitSerial] at hstep
  exact hstep

/-- Settles O16: the checksum's bytes cancel the accumulator, which leaves a constant. -/
theorem crcResidueIsConstant : Obligations.CrcResidueIsConstant := by
  intro m s v t h hout
  cases h
  cases hout
  exact ⟨_, exec_crcChecksum _ s, by rw [crcChecksum_append_checksum]; rfl⟩

/-- Settles O11: the loop by its definition, and the entries by evaluation. -/
theorem crcTableIsShiftXorLoop : Obligations.CrcTableIsShiftXorLoop :=
  ⟨fun _ => rfl, crcShift_eq_if_and_one, by decide⟩

/-- Settles O12, by whether a `CRC.INIT` was issued. -/
theorem crcFinalInvertsAccumulator : Obligations.CrcFinalInvertsAccumulator := by
  intro s
  split_ifs with hready
  · exact exec_crcFinal_ready hready
  · exact if_neg hready

end Sys2Proof
end

section
/-! SUPPORT and SETTLEMENTS. The laws of the frame codec (spec/41_frame_codec.md sections 1, 4 and
5): encoding undoes decoding, the checksum of a whole encoded Frame, what `FRAME.SET_PAYLOAD`
drives, the Frames an operation returns, and the obligations about them. -/

namespace Sys2Proof.Machine

/-! ### Slices of a buffer, byte by byte -/

theorem slice_self (w : Bytes) (i : Nat) : slice w i i = [] := by
  rw [slice, Nat.sub_self, List.take_zero]

theorem slice_eq_byteAt_cons {w : Bytes} {lo hi : Nat} (hlo : lo < hi) (hhi : hi ≤ w.length) :
    slice w lo hi = byteAt w lo :: slice w (lo + 1) hi := by
  have hlt : lo < w.length := by omega
  have hbyte : byteAt w lo = w[lo] := List.getD_eq_getElem w 0 hlt
  rw [slice, slice, ← List.cons_getElem_drop_succ (h := hlt), hbyte,
    show hi - lo = hi - (lo + 1) + 1 by omega, List.take_succ_cons]

theorem slice_append_slice {w : Bytes} {lo mid hi : Nat} (h : lo ≤ mid) (h' : mid ≤ hi) :
    slice w lo mid ++ slice w mid hi = slice w lo hi := by
  rw [slice, slice, slice, show hi - lo = (mid - lo) + (hi - mid) by omega, List.take_add,
    List.drop_drop, Nat.add_sub_cancel' h]

theorem slice_all (w : Bytes) : slice w 0 w.length = w := by
  rw [slice_to_length, List.drop_zero]

/-! ### Encoding undoes decoding (R35, R46) -/

theorem addrBytes_addrAt {w : Bytes} {i : Nat} (h : i + 6 ≤ w.length) :
    addrBytes (addrAt w i) = slice w i (i + 6) := by
  rw [slice_eq_byteAt_cons, slice_eq_byteAt_cons, slice_eq_byteAt_cons, slice_eq_byteAt_cons,
    slice_eq_byteAt_cons, slice_eq_byteAt_cons, slice_self]
  · rfl
  all_goals omega

theorem be16_be16At {w : Bytes} {i : Nat} (h : i + 2 ≤ w.length) :
    be16 (be16At w i) = slice w i (i + 2) := by
  have hhigh := wordKind_headerWord (byteAt w i) (byteAt w (i + 1))
  have hlow := wordIdentifier_headerWord (byteAt w i) (byteAt w (i + 1))
  rw [slice_eq_byteAt_cons (by omega) h, slice_eq_byteAt_cons (by omega) h, slice_self]
  exact congrArg₂ (fun a b => [a, b]) hhigh hlow

/-- The four bytes of a joined word, least significant first. -/
theorem le32_append (a b c d : Byte) : le32 (d ++ c ++ b ++ a) = [a, b, c, d] := by
  simp only [le32, BitVec.extractLsb'_append_eq_of_le, BitVec.extractLsb'_append_eq_right,
    BitVec.extractLsb'_eq_self, Nat.reduceLeDiff, Nat.reduceSub]

theorem le32_le32At {w : Bytes} {i : Nat} (h : i + 4 ≤ w.length) :
    le32 (le32At w i) = slice w i (i + 4) := by
  rw [le32At, le32_append, slice_eq_byteAt_cons, slice_eq_byteAt_cons, slice_eq_byteAt_cons,
    slice_eq_byteAt_cons, slice_self]
  all_goals omega

/-- The parsed fields, encoded, are the bytes they were parsed from. -/
theorem frameEncode_frameFields {w : Bytes} (h : 18 ≤ w.length) :
    frameEncode (frameFields w) = w := by
  have hchecksum : le32 (le32At w (w.length - 4)) = slice w (w.length - 4) w.length := by
    rw [le32_le32At (by omega), Nat.sub_add_cancel (by omega)]
  rw [frameEncode, frameFields, addrBytes_addrAt (by omega), addrBytes_addrAt (by omega),
    be16_be16At (by omega), hchecksum, slice_append_slice, slice_append_slice, slice_append_slice,
    slice_append_slice, slice_all]
  all_goals omega

theorem frameEncode_of_frameDecode {w : Bytes} {f : Frame} (h : frameDecode w = .ok f) :
    frameEncode f = w := by
  obtain ⟨hmin, -, -, rfl, -⟩ := frameDecode_ok h
  exact frameEncode_frameFields (by omega)

theorem frameDecode_of_exec {w : Bytes} {f : Frame} {s : State}
    (h : exec (.frameDecode w) s = .next (drives s (.ok (.frame f)))) : frameDecode w = .ok f := by
  rw [exec_frameDecode] at h
  exact report_frame_ok (congrArg State.out (Host.Outcome.next.inj h))

theorem frameDecode_frameEncode_valid {f : Frame} (hwf : f.WellFormed)
    (hvalid : frameValid f = true) : frameDecode (frameEncode f) = .ok f := by
  rw [frameDecode_frameEncode hwf, if_pos hvalid]

theorem frameDecode_frameEncode_invalid {f : Frame} (hwf : f.WellFormed)
    (hinvalid : ¬frameValid f = true) : frameDecode (frameEncode f) = .error .checksumMismatch := by
  rw [frameDecode_frameEncode hwf, if_neg hinvalid]

/-! ### The checksum over a whole encoded Frame (R87) -/

/-- An encoded valid Frame is a byte string followed by its own checksum. -/
theorem crcChecksum_frameEncode {f : Frame} (h : frameValid f = true) :
    crcChecksum [frameEncode f] = 0x2144DF1C := by
  have hcrc := ((frameValid_iff f).1 h).trans (frameCrc_eq_crcChecksum_take f)
  rw [frameEncode_take_without_checksum] at hcrc
  rw [frameEncode, hcrc]
  exact crcChecksum_append_checksum _

/-- Every byte string that decodes has the residue as its checksum, and a change of one byte gives
another checksum. -/
theorem frameDecode_modify {f : Frame} {k : Nat} {mask : Byte} (hwf : f.WellFormed)
    (hvalid : frameValid f = true) (hk : k < (frameEncode f).length) (hmask : mask ≠ 0) :
    frameDecode ((frameEncode f).modify k (· ^^^ mask)) = .error .checksumMismatch := by
  have hmin : 46 ≤ f.payload.length := hwf.1
  have hmax : f.payload.length ≤ 1500 := hwf.2
  have hlength : ((frameEncode f).modify k (· ^^^ mask)).length = f.payload.length + 18 := by
    rw [List.length_modify, frameEncode_length]
  obtain ⟨hshort, -⟩ | ⟨hlong, -⟩ | ⟨-, -, -, hdec⟩ | ⟨-, -, hv, hdec⟩ :=
    frameDecode_cases ((frameEncode f).modify k (· ^^^ mask))
  · omega
  · omega
  · exact hdec
  · have hresidue := crcChecksum_frameEncode hv
    rw [frameEncode_of_frameDecode hdec, ← crcChecksum_frameEncode hvalid] at hresidue
    exact absurd hresidue (crcChecksum_modify_ne hk hmask)

/-! ### `FRAME.SET_PAYLOAD` (R84) -/

theorem exec_frameSetPayload_inBounds (f : Frame) {q : Bytes} (suppress : Bool) (s : State)
    (h : ¬(q.length < 46 ∨ 1500 < q.length)) :
    exec (.frameSetPayload f q suppress) s = .next (drives s (.ok (.frame { f with
      payload := q
      checksum := if suppress then f.checksum
        else frameCrc f.destination f.source f.typeTag q }))) := by
  rw [exec_frameSetPayload, frameSetPayload_inBounds f suppress (by omega)]
  rfl

theorem exec_frameSetPayload_refuses (f : Frame) {q : Bytes} (suppress : Bool) (s : State)
    (h : q.length < 46 ∨ 1500 < q.length) :
    exec (.frameSetPayload f q suppress) s =
      .next (drives s (.err (.payloadOutOfBounds q.length))) := by
  rw [exec_frameSetPayload, frameSetPayload_outOfBounds f suppress (by omega)]
  rfl

theorem frameCrc_example_changed_payload :
    frameCrc ⟨2, 0, 0, 0, 0, 2⟩ ⟨2, 0, 0, 0, 0, 1⟩ 0x0800 (0x01 :: zeros 45) = 0xCBE7733A := by
  decide +kernel

/-! ### The Frames an operation returns (R76) -/

theorem frameDecode_wellFormed {w : Bytes} {f : Frame} (h : frameDecode w = .ok f) :
    f.WellFormed := by
  obtain ⟨-, -, -, -, hbound⟩ := frameDecode_ok h
  exact hbound

theorem frameSetPayload_wellFormed {g f : Frame} {q : Bytes} {suppress : Bool}
    (h : frameSetPayload g q suppress = .ok f) : f.WellFormed := by
  by_cases hq : 46 ≤ q.length ∧ q.length ≤ 1500
  · rw [frameSetPayload_inBounds g suppress hq] at h
    cases h
    exact hq
  · rw [frameSetPayload_outOfBounds g suppress hq] at h
    cases h

theorem exec_out_frame_wellFormed {i : Instr} {s t : State} {f : Frame} (h : exec i s = .next t)
    (hout : t.out = some (.ok (.frame f))) : f.WellFormed := by
  obtain ⟨_, _, _, _, hnew⟩ | ⟨_, hdec⟩ | ⟨_, _, _, -, hset⟩ := exec_out_frame h hout
  · exact (frameNew_ok hnew).1
  · exact frameDecode_wellFormed hdec
  · exact frameSetPayload_wellFormed hset

end Sys2Proof.Machine

namespace Sys2Proof

open Machine

/-- Settles O24: the fields of an encoded Frame are the Frame's, and the parsed fields encode to the
bytes they were parsed from. -/
theorem frameRoundTrip : Obligations.FrameRoundTrip := by
  refine ⟨fun s dst src ty payload hmin hmax => ?_, fun s w f h => ?_⟩
  · let f : Frame := ⟨dst, src, ty, payload, frameCrc dst src ty payload⟩
    have hvalid : frameValid f = true := (frameValid_iff f).2 rfl
    exact ⟨f, frameEncode f, exec_frameNew_seals s (by omega) rfl, rfl, rfl, rfl, rfl,
      exec_frameEncode f s,
      exec_frameDecode_ok s (frameDecode_frameEncode_valid ⟨hmin, hmax⟩ hvalid),
      by rw [exec_frameIsValid, hvalid]⟩
  · rw [exec_frameEncode, frameEncode_of_frameDecode (frameDecode_of_exec h)]

/-- Settles O25: an encoded valid Frame has the residue as its checksum, and one changed byte
changes the checksum. -/
theorem singleByteCorruptionIsDetected : Obligations.SingleByteCorruptionIsDetected :=
  fun s _ _ _ hwf hvalid hk hmask =>
    exec_frameDecode_error s (frameDecode_modify hwf hvalid hk hmask)

/-- Settles O23: the bound, then the checksum kept or recomputed; the four recomputing mutators are
no suppressed one, so what they return is valid. -/
theorem frameSetPayloadSuppresses : Obligations.FrameSetPayloadSuppresses := by
  refine ⟨fun p s f q suppress => ⟨rfl, rfl, ?_⟩, fun s => ?_⟩
  · by_cases hq : q.length < 46 ∨ 1500 < q.length
    · rw [if_pos hq]
      exact ⟨exec_frameSetPayload_refuses f suppress s hq, rfl⟩
    rw [if_neg hq]
    have hexec := exec_frameSetPayload_inBounds f suppress s hq
    cases suppress with
    | false => exact hexec
    | true =>
      refine ⟨hexec, (frameValid_iff _).trans eq_comm, fun a ty i t h hi hrun hout => ?_⟩
      refine exec_out_frame_valid hrun hout fun g' q' => ?_
      rintro rfl
      simp at hi
  · have hinvalid : ¬frameValid ⟨⟨2, 0, 0, 0, 0, 2⟩, ⟨2, 0, 0, 0, 0, 1⟩, 0x0800, 0x01 :: zeros 45,
        0xB42EE8A9⟩ = true := by
      rw [frameValid_iff, frameCrc_example_changed_payload]
      decide
    exact ⟨exec_frameSetPayload_inBounds _ true s (by decide), frameCrc_example_changed_payload,
      exec_frameDecode_error s (frameDecode_frameEncode_invalid (by decide) hinvalid)⟩

/-- Settles O27, by which operations return a Frame and what they return. -/
theorem onlySuppressYieldsInvalidFrame : Obligations.OnlySuppressYieldsInvalidFrame := by
  intro i s t f h hout
  obtain ⟨hmin, hmax⟩ := exec_out_frame_wellFormed h hout
  refine ⟨hmin, hmax, fun hinvalid => ?_⟩
  by_contra hi
  push Not at hi
  rw [exec_out_frame_valid h hout hi] at hinvalid
  cases hinvalid

end Sys2Proof
end

section
/-! SUPPORT and SETTLEMENTS. What `MSG.UNPACK` reads of its buffer (spec/30_encoding.md section 2,
spec/42_message_codec.md section 4): header and tail alone, a padded Message without its last byte,
and the obligations about them. -/

namespace Sys2Proof.Machine

/-! ### `MSG.UNPACK` reads the header and the tail -/

theorem byteAt_take {b : Bytes} {n i : Nat} (h : i < n) : byteAt (b.take n) i = byteAt b i := by
  rw [byteAt, byteAt, List.getD_eq_getElem?_getD, List.getD_eq_getElem?_getD,
    List.getElem?_take_of_lt h]

theorem byteAt_eq_of_take_eq {a b : Bytes} {n i : Nat} (h : a.take n = b.take n) (hi : i < n) :
    byteAt a i = byteAt b i := by
  rw [← byteAt_take hi, h, byteAt_take hi]

theorem len16At_eq_of_take_eq {a b : Bytes} (order : LenOrder) (h : a.take 4 = b.take 4) :
    len16At order a 2 = len16At order b 2 := by
  have h2 := byteAt_eq_of_take_eq h (i := 2) (by decide)
  have h3 := byteAt_eq_of_take_eq h (i := 3) (by decide)
  cases order <;> simp only [len16At, le16At, be16At, h2, h3]

/-- A Message is its header and the last bytes, as many as the header says. -/
theorem msgUnpack_ok_iff {order : LenOrder} {p : Bytes} {m : Message} :
    msgUnpack order p = .ok m ↔
      4 ≤ p.length ∧ (len16At order p 2).toNat ≤ p.length - 4 ∧
        m = ⟨byteAt p 0, byteAt p 1, len16At order p 2,
          p.drop (p.length - (len16At order p 2).toNat)⟩ := by
  obtain ⟨hshort, h⟩ | ⟨-, hexceeds, h⟩ | ⟨hlong, hfits, h⟩ := msgUnpack_cases order p
  · rw [h]
    exact ⟨nofun, fun ⟨hlong, _⟩ => absurd hlong (by omega)⟩
  · rw [h]
    exact ⟨nofun, fun ⟨_, hfits, _⟩ => absurd hfits (by omega)⟩
  · rw [h, slice_to_length]
    exact ⟨fun heq => ⟨hlong, hfits, (Except.ok.inj heq).symm⟩,
      fun ⟨_, _, heq⟩ => congrArg Except.ok heq.symm⟩

/-- A Message's length field counts its data (R90). -/
theorem msgUnpack_length {order : LenOrder} {p : Bytes} {m : Message}
    (h : msgUnpack order p = .ok m) : m.length.toNat = m.data.length := by
  obtain ⟨hlong, hfits, rfl⟩ := msgUnpack_ok_iff.1 h
  rw [List.length_drop, Nat.sub_sub_self (by omega)]

/-- The bytes between header and data are not read. -/
theorem msgUnpack_ignores_padding {order : LenOrder} {a b : Bytes} {m : Message}
    (hlength : a.length = b.length) (hheader : a.take 4 = b.take 4)
    (htail : a.drop (a.length - m.length.toNat) = b.drop (b.length - m.length.toNat))
    (h : msgUnpack order a = .ok m) : msgUnpack order b = .ok m := by
  obtain ⟨hlong, hfits, rfl⟩ := msgUnpack_ok_iff.1 h
  have hfield := len16At_eq_of_take_eq order hheader
  have h0 := byteAt_eq_of_take_eq hheader (i := 0) (by decide)
  have h1 := byteAt_eq_of_take_eq hheader (i := 1) (by decide)
  refine msgUnpack_ok_iff.2 ⟨hlength ▸ hlong, hfield ▸ hlength ▸ hfits, ?_⟩
  rw [htail, hfield, h0, h1]

theorem report_message_ok {r : Except BlockError Message} {s : State} {m : Message}
    (h : (s.report .message r).out = some (.ok (.message m))) : r = .ok m := by
  cases r with
  | ok m' => cases h; rfl
  | error e => cases h

theorem msgUnpack_of_exec {b : Bytes} {m : Message} {s : State}
    (h : exec (.msgUnpack b) s = .next (drives s (.ok (.message m)))) :
    msgUnpack s.cfg.lenOrder b = .ok m := by
  rw [exec_msgUnpack] at h
  exact report_message_ok (congrArg State.out (Host.Outcome.next.inj h))

/-! ### A padded Message without its last byte (R94) -/

theorem zeros_succ (n : Nat) : zeros (n + 1) = zeros n ++ [0x00] := List.replicate_succ'

/-- What stands behind the header loses its last byte, and the data its place. -/
theorem padded_dropLast {data : Bytes} (h : data.length ≤ 41) :
    (zeros (42 - data.length) ++ data).dropLast =
      zeros (41 - data.length) ++ if data = [] then [] else 0x00 :: data.dropLast := by
  split_ifs with hnil
  · subst hnil
    rfl
  · rw [List.dropLast_append_of_ne_nil hnil, show 42 - data.length = 41 - data.length + 1 by omega,
      zeros_succ, List.append_assoc]
    rfl

theorem msgUnpack_padded_dropLast (order : LenOrder) (kind id : Byte) {data : Bytes}
    (h : data.length ≤ 41) :
    msgUnpack order (packedMessage order kind id data).dropLast =
      .ok ⟨kind, id, BitVec.ofNat 16 data.length,
        if data = [] then [] else 0x00 :: data.dropLast⟩ := by
  have hshift : (if data = [] then [] else 0x00 :: data.dropLast : Bytes).length =
      data.length := by
    split_ifs with hnil
    · rw [hnil]
    · have := List.length_pos_iff.2 hnil
      rw [List.length_cons, List.length_dropLast]
      omega
  have hrest : zeros (42 - data.length) ++ data ≠ [] :=
    List.ne_nil_of_length_pos (by rw [List.length_append, zeros_length]; omega)
  rw [packedMessage_eq_header_append, ← List.append_assoc, List.dropLast_append_of_ne_nil hrest,
    padded_dropLast h, List.append_assoc, msgUnpack_header_append,
    toNat_ofNat_length (by omega), List.length_append, hshift, if_neg (by omega),
    Nat.add_sub_cancel, List.drop_left]

end Sys2Proof.Machine

namespace Sys2Proof

open Machine

/-- Settles O31: the answer is made of the header and the tail. -/
theorem paddingIsIgnored : Obligations.PaddingIsIgnored :=
  fun _ _ _ _ hlength hheader h htail =>
    exec_msgUnpack_ok (msgUnpack_ignores_padding hlength hheader htail (msgUnpack_of_exec h))

/-- Settles O32: the last padding byte takes the place of the first data byte. -/
theorem truncatedPaddedMessageShifts : Obligations.TruncatedPaddedMessageShifts :=
  fun _ kind id _ h => exec_msgUnpack_ok (msgUnpack_padded_dropLast _ kind id h)

end Sys2Proof
end

section
/-! SUPPORT and SETTLEMENTS. The link adapter (spec/43_dispatch_router.md section 1): how the ports
and the channels of a state are rewritten together, what a receive gives `LINK.RX` and the two
polls, delivery, wire faults, and the obligations about them. -/

namespace Sys2Proof.Machine

/-! ### Ports and channels -/

@[simp] theorem drives_drives (s : State) (r r' : Result) : drives (drives s r) r' = drives s r' :=
  rfl

@[simp] theorem drives_cfg (s : State) (r : Result) : (drives s r).cfg = s.cfg := rfl

@[simp] theorem drives_params (s : State) (r : Result) : (drives s r).params = s.params := rfl

@[simp] theorem drives_incoming (s : State) (r : Result) (role : Role) :
    (drives s r).incoming role = s.incoming role := by
  cases role <;> rfl

@[simp] theorem transmit_drives (s : State) (r : Result) (role : Role) (w : Bytes) :
    (drives s r).transmit role w = drives (s.transmit role w) r := by
  cases role <;> rfl

@[simp] theorem setIncoming_drives (s : State) (r : Result) (role : Role) (q : List Bytes) :
    (drives s r).setIncoming role q = drives (s.setIncoming role q) r := by
  cases role <;> rfl

/-- What a role sends arrives at the tail of its peer's channel (R101). -/
@[simp] theorem incoming_transmit (s : State) (role : Role) (w : Bytes) :
    (s.transmit role w).incoming (otherRole role) = s.incoming (otherRole role) ++ [w] := by
  cases role <;> rfl

@[simp] theorem incoming_setIncoming (s : State) (role : Role) (q : List Bytes) :
    (s.setIncoming role q).incoming role = q := by
  cases role <;> rfl

@[simp] theorem setIncoming_setIncoming (s : State) (role : Role) (q q' : List Bytes) :
    (s.setIncoming role q).setIncoming role q' = s.setIncoming role q' := by
  cases role <;> rfl

@[simp] theorem setIncoming_transmit (s : State) (role : Role) (w : Bytes) (q : List Bytes) :
    (s.transmit role w).setIncoming (otherRole role) q = s.setIncoming (otherRole role) q := by
  cases role <;> rfl

theorem setIncoming_of_eq {s : State} {role : Role} {q : List Bytes} (h : s.incoming role = q) :
    s.setIncoming role q = s := by
  subst h
  cases role <;> rfl

/-! ### `LINK.TX` -/

theorem exec_linkTx_inBounds (role : Role) {m : Bytes} (s : State)
    (h : 46 ≤ m.length ∧ m.length ≤ 1500) :
    exec (.linkTx role m) s =
      .next (drives (s.transmit role (carriedFrame s.cfg role m)) (.ok .none)) := by
  change Host.Outcome.next (runEmission (linkTx role m s) s) = _
  rw [linkTx_inBounds role s h]
  rfl

theorem exec_linkTx_outOfBounds (role : Role) {m : Bytes} (s : State)
    (h : ¬(46 ≤ m.length ∧ m.length ≤ 1500)) :
    exec (.linkTx role m) s = .next (drives s (.err (.payloadOutOfBounds m.length))) := by
  change Host.Outcome.next (runEmission (linkTx role m s) s) = _
  rw [linkTx_outOfBounds role s h]
  rfl

/-! ### What a receive gives -/

section Receives

variable {role : Role} {t : Transform} {s s' : State} {r : Except BlockError (Option Bytes)}

theorem exec_linkRx_done (h : linkRx role t s = .done s' r) :
    exec (.linkRx role t) s = .next (s'.report .received r) := by
  simp only [exec, execLinkRx, h]

theorem exec_devPoll_done (h : linkRx .device t s = .done s' r) :
    exec (.devPoll t) s = .next (devCycle r s') := by
  simp only [exec, execDevPoll, h]

theorem exec_hostPoll_done (h : linkRx .host t s = .done s' r) :
    exec (.hostPoll t) s = .next (hostCycle r s') := by
  simp only [exec, execHostPoll, h]

theorem exec_linkRx_refused_iff :
    exec (.linkRx role t) s = .refused .transformNotAllowed ↔ linkRx role t s = .notAllowed := by
  cases h : linkRx role t s <;> simp [exec, execLinkRx, h]

theorem exec_devPoll_refused_iff :
    exec (.devPoll t) s = .refused .transformNotAllowed ↔ linkRx .device t s = .notAllowed := by
  cases h : linkRx .device t s <;> simp [exec, execDevPoll, h]

theorem exec_hostPoll_refused_iff :
    exec (.hostPoll t) s = .refused .transformNotAllowed ↔ linkRx .host t s = .notAllowed := by
  cases h : linkRx .host t s <;> simp [exec, execHostPoll, h]

theorem linkRx_notAllowed_iff {w : Bytes} {rest : List Bytes} (h : s.incoming role = w :: rest) :
    linkRx role t s = .notAllowed ↔ ¬corruptAllows s.params.corrupt t w = true := by
  by_cases ha : corruptAllows s.params.corrupt t w = true
  · rw [linkRx_head h ha]
    exact ⟨nofun, fun hn => absurd ha hn⟩
  · rw [linkRx_outside h (Bool.eq_false_of_not_eq_true ha)]
    exact ⟨fun _ => ha, fun _ => rfl⟩

end Receives

/-- `LINK.RX` of a waiting Frame under an allowed transform (R102). -/
theorem exec_linkRx_head {role : Role} {t : Transform} {s : State} {w : Bytes} {rest : List Bytes}
    (h : s.incoming role = w :: rest) (ha : corruptAllows s.params.corrupt t w = true) :
    exec (.linkRx role t) s = .next ((s.setIncoming role rest).report .received
      (linkAccept s.cfg role (applyTransform t w))) :=
  exec_linkRx_done (linkRx_head h ha)

/-! ### What the receiver accepts (R102, R103) -/

theorem addrOk_iff (cfg : Cfg) (role : Role) (f : Frame) :
    addrOk cfg role f = true ↔
      cfg.addrFilter = .off ∨
      (cfg.addrFilter = .dstOnly ∧ f.destination = localAddr cfg role) ∨
      (cfg.addrFilter = .dstAndSrc ∧ f.destination = localAddr cfg role ∧
        f.source = peerAddr cfg role) := by
  cases h : cfg.addrFilter <;> simp [addrOk, h]

theorem linkAccept_error {cfg : Cfg} {role : Role} {w : Bytes} {e : BlockError}
    (h : frameDecode w = .error e) : linkAccept cfg role w = .error e := by
  rw [linkAccept, h]

theorem linkAccept_ok {cfg : Cfg} {role : Role} {w : Bytes} {f : Frame}
    (h : frameDecode w = .ok f) :
    linkAccept cfg role w = .ok (if addrOk cfg role f then some f.payload else none) := by
  rw [linkAccept, h]

/-- The peer takes what a role sent, under every address filter. -/
theorem linkAccept_carriedFrame (cfg : Cfg) (role : Role) {m : Bytes}
    (h : 46 ≤ m.length ∧ m.length ≤ 1500) :
    linkAccept cfg (otherRole role) (carriedFrame cfg role m) = .ok (some m) := by
  have hdec := frameDecode_frameEncode_valid (f := ⟨peerAddr cfg role, localAddr cfg role,
    cfg.linkType, m, frameCrc (peerAddr cfg role) (localAddr cfg role) cfg.linkType m⟩) h
    ((frameValid_iff _).2 rfl)
  have haddr : addrOk cfg (otherRole role) ⟨peerAddr cfg role, localAddr cfg role, cfg.linkType, m,
      frameCrc (peerAddr cfg role) (localAddr cfg role) cfg.linkType m⟩ = true := by
    rw [addrOk_iff]
    cases role <;> cases cfg.addrFilter <;> simp [otherRole, localAddr, peerAddr]
  rw [carriedFrame, linkAccept_ok hdec, if_pos haddr]

/-- A Frame from the peer at the head, received as it was sent (R102). -/
theorem exec_linkRx_carriedFrame (role : Role) {m : Bytes} {s : State} {rest : List Bytes}
    (hm : 46 ≤ m.length ∧ m.length ≤ 1500)
    (h : s.incoming (otherRole role) = carriedFrame s.cfg role m :: rest)
    (ha : corruptAllows s.params.corrupt .identity (carriedFrame s.cfg role m) = true) :
    exec (.linkRx (otherRole role) .identity) s =
      .next (drives (s.setIncoming (otherRole role) rest) (.ok (.received (some m)))) := by
  rw [exec_linkRx_head h ha, applyTransform, linkAccept_carriedFrame s.cfg role hm]
  rfl

/-- A single-byte fault on the wire is a decoding error at either receiver (R104). -/
theorem linkAccept_xorByte (cfg : Cfg) (role : Role) {f : Frame} {k : Nat} {mask : Byte}
    (hwf : f.WellFormed) (hvalid : frameValid f = true) (hk : k < (frameEncode f).length)
    (hmask : mask ≠ 0) :
    linkAccept cfg role (applyTransform (.xorByte k mask) (frameEncode f)) =
      .error .checksumMismatch :=
  linkAccept_error (frameDecode_modify hwf hvalid hk hmask)

theorem corruptAllows_xorByte {set : CorruptSet} {w : Bytes} {k : Nat} {mask : Byte}
    (hset : .singleByte ∈ set) (hk : k < w.length) (hmask : mask ≠ 0) :
    corruptAllows set (.xorByte k mask) w = true :=
  corruptAllows_of_mem hset (decide_eq_true ⟨hk, hmask⟩)

end Sys2Proof.Machine

namespace Sys2Proof

open Machine

/-- Settles O33, by the bound on the payload, for each role. -/
theorem linkTxAppendsOneFrame : Obligations.LinkTxAppendsOneFrame := by
  intro s m
  by_cases h : 46 ≤ m.length ∧ m.length ≤ 1500
  · rw [exec_linkTx_inBounds .host s h, exec_linkTx_inBounds .device s h, if_neg (by omega),
      if_neg (by omega)]
    exact ⟨rfl, rfl⟩
  · rw [exec_linkTx_outOfBounds .host s h, exec_linkTx_outOfBounds .device s h,
      if_pos (by omega), if_pos (by omega)]
    exact ⟨rfl, rfl⟩

/-- Settles O34: the channel, then what the receiver makes of the Frame, with the filter as R103
spells it out. -/
theorem linkRxConsumesHead : Obligations.LinkRxConsumesHead := by
  intro s role t
  refine ⟨fun hempty => exec_linkRx_done (linkRx_empty t hempty), fun w rest hhead ha => ?_⟩
  rw [exec_linkRx_head hhead ha]
  cases hdec : frameDecode (applyTransform t w) with
  | error e =>
    rw [linkAccept_error hdec]
    cases role <;> rfl
  | ok f =>
    rw [linkAccept_ok hdec]
    simp only [addrOk_iff]
    cases role <;> rfl

/-- Settles O35: each receive finds the older Frame at the head and accepts it, and the two channels
are at the end as they were. -/
theorem linkDeliversInOrder : Obligations.LinkDeliversInOrder := by
  intro s role a b ha ha' hb hb' hempty hidentity
  let wa := carriedFrame s.cfg role a
  let wb := carriedFrame s.cfg role b
  have htx1 := exec_linkTx_inBounds role s ⟨ha, ha'⟩
  have htx2 : exec (.linkTx role b) (drives (s.transmit role wa) (.ok .none)) =
      .next (drives ((s.transmit role wa).transmit role wb) (.ok .none)) := by
    simpa using exec_linkTx_inBounds role (drives (s.transmit role wa) (.ok .none)) ⟨hb, hb'⟩
  have hrx1 : exec (.linkRx (otherRole role) .identity)
        (drives ((s.transmit role wa).transmit role wb) (.ok .none)) =
      .next (drives (s.setIncoming (otherRole role) [wb]) (.ok (.received (some a)))) := by
    simpa using exec_linkRx_carriedFrame role (rest := [wb]) ⟨ha, ha'⟩
      (s := drives ((s.transmit role wa).transmit role wb) (.ok .none)) (by simp [hempty, wa])
      (by simpa using hidentity _)
  have hrx2 : exec (.linkRx (otherRole role) .identity)
        (drives (s.setIncoming (otherRole role) [wb]) (.ok (.received (some a)))) =
      .next (drives s (.ok (.received (some b)))) := by
    simpa [setIncoming_of_eq hempty] using exec_linkRx_carriedFrame role (rest := []) ⟨hb, hb'⟩
      (s := drives (s.setIncoming (otherRole role) [wb]) (.ok (.received (some a))))
      (by simp [wb]) (by simpa using hidentity _)
  exact ⟨_, _, _, _, htx1, htx2, hrx1, rfl, hrx2, rfl⟩

/-- Settles O36: the changed Frame fails to decode, at `LINK.RX` and in the receiver's poll. -/
theorem wireFaultShowsAsChecksumMismatch : Obligations.WireFaultShowsAsChecksumMismatch := by
  intro s f rest k mask hwf hvalid hk hmask hset
  have ha := corruptAllows_xorByte hset hk hmask
  refine ⟨fun hq => ?_, fun hq => ?_⟩
  · have hrx := linkRx_head (role := .device) hq ha
    rw [linkAccept_xorByte _ _ hwf hvalid hk hmask] at hrx
    exact ⟨exec_linkRx_done hrx, exec_devPoll_done hrx⟩
  · have hrx := linkRx_head (role := .host) hq ha
    rw [linkAccept_xorByte _ _ hwf hvalid hk hmask] at hrx
    exact ⟨exec_linkRx_done hrx, exec_hostPoll_done hrx⟩

/-- Settles O37: a waiting Frame is refused exactly the transforms its set does not hold. -/
theorem transformOutsideCorruptIsRefused : Obligations.TransformOutsideCorruptIsRefused := by
  intro s t w rest outside hset
  have houtside : ¬corruptAllows s.params.corrupt t w = true ↔ outside := by
    obtain ⟨hcorrupt, hiff⟩ | ⟨hcorrupt, hiff⟩ := hset
    · rw [hcorrupt, hiff]
      exact (corruptAllows_identityOnly t w).not
    · rw [hcorrupt, hiff]
      exact (corruptAllows_faultTesting t w).not.trans not_not
  refine ⟨fun hq => ?_, fun hq => ?_⟩
  · have hrefused := (linkRx_notAllowed_iff (role := .device) (t := t) hq).trans houtside
    exact ⟨exec_linkRx_refused_iff.trans hrefused, exec_devPoll_refused_iff.trans hrefused⟩
  · have hrefused := (linkRx_notAllowed_iff (role := .host) (t := t) hq).trans houtside
    exact ⟨exec_linkRx_refused_iff.trans hrefused, exec_hostPoll_refused_iff.trans hrefused⟩

end Sys2Proof
end

section
/-! SUPPORT and SETTLEMENTS. The Device role (spec/43_dispatch_router.md section 3): the reply to a
command and the state it sets, the stream emission, everything a Device cycle can do, and the
obligations about them. -/

namespace Sys2Proof.Machine

/-! ### The Device's rows and the Messages it emits -/

/-- The Frame with which the Device answers the command `id` (R108 to R111). -/
def deviceReply (cfg : Cfg) (id : Byte) : Bytes :=
  if id = 0x01 then sentFrame cfg .device 0x02 0x01 [0x50, 0x4F, 0x4E, 0x47]
  else if id = 0x02 then sentFrame cfg .device 0x02 0x02 [0x4F, 0x4B]
  else if id = 0x03 then sentFrame cfg .device 0x02 0x03 [0x4F, 0x4B]
  else sentFrame cfg .device 0x04 0x01 []

/-- `DEV.STREAMING` after the command `id` (R109, R110). -/
def streamingAfter (id : Byte) (before : Bool) : Bool :=
  if id = 0x02 then true
  else if id = 0x03 then false
  else before

theorem runHandler_ok {h : DevHeader} {s s' : State} (hok : devHandle h s = .ok s') :
    runHandler h s = drives s' (.ok .none) := by
  rw [runHandler, hok]
  rfl

theorem runEmission_ok {r : Except BlockError State} {s' : State} (s : State) (h : r = .ok s') :
    runEmission r s = drives s' (.ok .none) := by
  rw [h]
  rfl

/-- What the handler of any COMMAND does (R108 to R111). -/
theorem devHandle_command (id : Byte) (s : State) :
    devHandle (devHeader (headerWord 0x01 id)) s = .ok { s with
      streaming := streamingAfter id s.streaming
      d2h := s.d2h ++ [deviceReply s.cfg id] } := by
  rw [devHeader_headerWord, if_pos rfl]
  by_cases h1 : id = 0x01
  · subst h1
    exact devHandle_ping s
  by_cases h2 : id = 0x02
  · subst h2
    exact devHandle_startStream s
  by_cases h3 : id = 0x03
  · subst h3
    exact devHandle_stopStream s
  · rw [if_neg h1, if_neg h2, if_neg h3, streamingAfter, if_neg h2, if_neg h3, deviceReply,
      if_neg h1, if_neg h2, if_neg h3]
    exact devHandle_unknownCommand id s

theorem devHandle_otherKind {kind : Byte} (id : Byte) (s : State) (h : kind ≠ 0x01) :
    devHandle (devHeader (headerWord kind id)) s = .error (.protocolViolation kind) := by
  rw [devHeader_headerWord, if_neg h]
  rfl

/-! ### The stream emission (R107, R112) -/

/-- The state after the stream part of a cycle: with the gate open, one telemetry Message is
appended and counted. -/
def streamed (gate : Bool) (s : State) : State :=
  { s with
    counter := if gate then s.counter + 1 else s.counter
    d2h := s.d2h ++ if gate then [telemetryFrame s] else [] }

theorem streamed_false (s : State) : streamed false s = s := by
  simp only [streamed, Bool.false_eq_true, if_false, List.append_nil]

theorem devStream_streamed (s0 : Bool) (s : State) :
    devStream s0 s = .ok (streamed (streamGate s.cfg.streamPhase s0 s.streaming) s) := by
  rw [devStream_eq]
  cases streamGate s.cfg.streamPhase s0 s.streaming with
  | false => rw [streamed_false]; rfl
  | true => rfl

/-- Without a command the two stream phases agree. -/
theorem streamGate_self (phase : StreamPhase) (b : Bool) : streamGate phase b b = b := by
  cases phase <;> rfl

/-- The counter modulo 2^32 as R112 writes it. -/
theorem word32_add_one_eq (v : Word32) : v + 1 = BitVec.ofNat 32 ((v.toNat + 1) % 2 ^ 32) := by
  apply BitVec.eq_of_toNat_eq
  simp

/-! ### A Device cycle (R107) -/

/-- The state after a Device cycle with the COMMAND `id`: the reply, then the stream part. -/
def commanded (id : Byte) (s : State) : State :=
  streamed (streamGate s.cfg.streamPhase s.streaming (streamingAfter id s.streaming)) { s with
    streaming := streamingAfter id s.streaming
    d2h := s.d2h ++ [deviceReply s.cfg id] }

theorem devCycle_error (e : BlockError) (s : State) : devCycle (.error e) s = drives s (.err e) :=
  rfl

theorem devCycle_none (s : State) :
    devCycle (.ok none) s = drives (streamed s.streaming s) (.ok .none) := by
  simp only [devCycle, devCommand, devStream_streamed, streamGate_self]
  rfl

section Unpacks

variable {p : Bytes} {s : State} {m : Message}

theorem devCycle_unpack_error {e : BlockError} (h : msgUnpack s.cfg.lenOrder p = .error e) :
    devCycle (.ok (some p)) s = drives s (.err e) := by
  simp only [devCycle, devCommand, h]
  rfl

theorem devCycle_otherKind (h : msgUnpack s.cfg.lenOrder p = .ok m) (hkind : m.kind ≠ 0x01) :
    devCycle (.ok (some p)) s = drives s (.err (.protocolViolation m.kind)) := by
  simp only [devCycle, devCommand, h, devHandle_otherKind _ s hkind]
  rfl

theorem devCycle_command (h : msgUnpack s.cfg.lenOrder p = .ok m) (hkind : m.kind = 0x01) :
    devCycle (.ok (some p)) s = drives (commanded m.identifier s) (.ok .none) := by
  simp only [devCycle, devCommand, h, hkind, devHandle_command, devStream_streamed]
  rfl

end Unpacks

/-- Everything a Device cycle can do (R107). -/
theorem devCycle_cases (r : Except BlockError (Option Bytes)) (s : State) :
    (∃ e, r = .error e ∧ devCycle r s = drives s (.err e)) ∨
      (r = .ok none ∧ devCycle r s = drives (streamed s.streaming s) (.ok .none)) ∨
      (∃ p e, r = .ok (some p) ∧ msgUnpack s.cfg.lenOrder p = .error e ∧
        devCycle r s = drives s (.err e)) ∨
      (∃ p m, r = .ok (some p) ∧ msgUnpack s.cfg.lenOrder p = .ok m ∧ m.kind ≠ 0x01 ∧
        devCycle r s = drives s (.err (.protocolViolation m.kind))) ∨
      ∃ p m, r = .ok (some p) ∧ msgUnpack s.cfg.lenOrder p = .ok m ∧ m.kind = 0x01 ∧
        devCycle r s = drives (commanded m.identifier s) (.ok .none) := by
  match r with
  | .error e => exact .inl ⟨e, rfl, rfl⟩
  | .ok none => exact .inr (.inl ⟨rfl, devCycle_none s⟩)
  | .ok (some p) =>
    refine .inr (.inr ?_)
    cases h : msgUnpack s.cfg.lenOrder p with
    | error e => exact .inl ⟨p, e, rfl, h, devCycle_unpack_error h⟩
    | ok m =>
      by_cases hkind : m.kind = 0x01
      · exact .inr (.inr ⟨p, m, rfl, h, hkind, devCycle_command h hkind⟩)
      · exact .inr (.inl ⟨p, m, rfl, h, hkind, devCycle_otherKind h hkind⟩)

theorem exec_devPoll_head {t : Transform} {s : State} {w : Bytes} {rest : List Bytes}
    (h : s.h2d = w :: rest) (ha : corruptAllows s.params.corrupt t w = true) :
    exec (.devPoll t) s = .next
      (devCycle (linkAccept s.cfg .device (applyTransform t w)) { s with h2d := rest }) :=
  exec_devPoll_done (linkRx_head (role := .device) h ha)

theorem exec_devPoll_empty (t : Transform) {s : State} (h : s.h2d = []) :
    exec (.devPoll t) s = .next (drives (streamed s.streaming s) (.ok .none)) := by
  rw [exec_devPoll_done (linkRx_empty (role := .device) t h), devCycle_none]

end Sys2Proof.Machine

namespace Sys2Proof

open Machine

/-- Settles O38, by what each handler does. -/
theorem deviceRowsAct : Obligations.DeviceRowsAct := fun s _ _ id =>
  ⟨congrArg _ (runHandler_ok (devHandle_ping s)),
    congrArg _ (runHandler_ok (devHandle_startStream s)),
    congrArg _ (runHandler_ok (devHandle_stopStream s)),
    congrArg _ (runHandler_ok (devHandle_unknownCommand id s)), rfl⟩

/-- Settles O39: each emission is the one of its handler, and the telemetry's is counted. -/
theorem namedMessagesAreEmitted : Obligations.NamedMessagesAreEmitted := by
  intro s
  have htelemetry : exec .streamTelemetry s = .next (drives
      ((s.transmit .device (telemetryFrame s)).bumpCounter) (.ok .none)) :=
    congrArg _ (runEmission_ok s (emitTelemetry_eq s))
  have hstart := sendMessage_fits .device kindResponse idStartStream (data := okData) s (by decide)
  have hstop := sendMessage_fits .device kindResponse idStopStream (data := okData) s (by decide)
  rw [← word32_add_one_eq]
  exact ⟨congrArg _ (runEmission_ok s (devHandle_ping s)),
    congrArg _ (runEmission_ok s hstart), congrArg _ (runEmission_ok s hstop),
    congrArg _ (runEmission_ok s (devHandle_unknownCommand 0 s)), htelemetry⟩

/-- Settles O40, by the Device cycle with a COMMAND. -/
theorem devicePollFollowsTransitionTable : Obligations.DevicePollFollowsTransitionTable := by
  intro s t w payload rest m hq ha haccept hunpack hkind
  rw [exec_devPoll_head hq ha, haccept,
    devCycle_command (s := { s with h2d := rest }) hunpack hkind]
  rfl

/-- Settles O41, by the Device cycle without a Message. -/
theorem devicePollWithoutCommand : Obligations.DevicePollWithoutCommand := by
  intro s t
  refine ⟨fun hempty => exec_devPoll_empty t hempty, fun w rest hq ha haccept => ?_⟩
  rw [exec_devPoll_head hq ha, haccept, devCycle_none]
  rfl

/-- Settles O42, by the layer that fails. -/
theorem devicePollErrorChangesNothingElse : Obligations.DevicePollErrorChangesNothingElse := by
  intro s t w rest e hq ha hlayers
  rw [exec_devPoll_head hq ha]
  obtain haccept | ⟨payload, haccept, hunpack | ⟨m, hunpack, hkind, rfl⟩⟩ := hlayers <;>
    rw [haccept]
  · rw [devCycle_error]
  · rw [devCycle_unpack_error (s := { s with h2d := rest }) hunpack]
  · rw [devCycle_otherKind (s := { s with h2d := rest }) hunpack hkind]

end Sys2Proof
end

section
/-! SUPPORT and SETTLEMENTS. The Host role (spec/43_dispatch_router.md section 4) and the errors of
both polls (spec/60_exceptions.md section 1): the classification of a Message, what a receive can
hand to a poll, the exchange of a PING and its answer, and the obligations about them. -/

namespace Sys2Proof.Machine

/-! ### A Host cycle (R115) -/

/-- The state after the Host has classified a Message, by its kind alone (R115, R117). -/
def classified (m : Message) (s : State) : State :=
  if m.kind = 0x02 then drivesEvent s (some ⟨.response, m.identifier, m.data⟩)
  else if m.kind = 0x03 then drivesEvent s (some ⟨.stream, m.identifier, m.data⟩)
  else if m.kind = 0x04 then drivesEvent s (some ⟨.error, m.identifier, m.data⟩)
  else drives s (.err (.protocolViolation m.kind))

theorem hostHandle_message (m : Message) (s : State) :
    hostHandle (hostHeader (headerWord m.kind m.identifier)) m.data s = classified m s := by
  rw [hostHeader_headerWord, classified]
  split_ifs <;> rfl

theorem hostCycle_unpack_error {p : Bytes} {e : BlockError} {s : State}
    (h : msgUnpack s.cfg.lenOrder p = .error e) :
    hostCycle (.ok (some p)) s = drives s (.err e) := by
  simp only [hostCycle, h]
  rfl

theorem hostCycle_message {p : Bytes} {m : Message} {s : State}
    (h : msgUnpack s.cfg.lenOrder p = .ok m) : hostCycle (.ok (some p)) s = classified m s := by
  simp only [hostCycle, h, hostHandle_message]

/-- Everything a Host cycle can do (R115). -/
theorem hostCycle_cases (r : Except BlockError (Option Bytes)) (s : State) :
    (∃ e, r = .error e ∧ hostCycle r s = drives s (.err e)) ∨
      (r = .ok none ∧ hostCycle r s = drivesEvent s none) ∨
      (∃ p e, r = .ok (some p) ∧ msgUnpack s.cfg.lenOrder p = .error e ∧
        hostCycle r s = drives s (.err e)) ∨
      ∃ p m, r = .ok (some p) ∧ msgUnpack s.cfg.lenOrder p = .ok m ∧
        hostCycle r s = classified m s := by
  match r with
  | .error e => exact .inl ⟨e, rfl, rfl⟩
  | .ok none => exact .inr (.inl ⟨rfl, rfl⟩)
  | .ok (some p) =>
    refine .inr (.inr ?_)
    cases h : msgUnpack s.cfg.lenOrder p with
    | error e => exact .inl ⟨p, e, rfl, h, hostCycle_unpack_error h⟩
    | ok m => exact .inr ⟨p, m, rfl, h, hostCycle_message h⟩

theorem exec_hostPoll_head {t : Transform} {s : State} {w : Bytes} {rest : List Bytes}
    (h : s.d2h = w :: rest) (ha : corruptAllows s.params.corrupt t w = true) :
    exec (.hostPoll t) s = .next
      (hostCycle (linkAccept s.cfg .host (applyTransform t w)) { s with d2h := rest }) :=
  exec_hostPoll_done (linkRx_head (role := .host) h ha)

/-! ### The errors a poll can report (R120) -/

/-- The errors of the receiving side: of the frame decoder, of a length field, of a router. -/
def IsReceiveError : BlockError → Prop
  | .msgTooShort _ | .payloadOutOfBounds _ | .dataTooLarge _ => False
  | _ => True

/-- What a receive can give: an error of the receiving side, nothing, or a payload in bounds. -/
def IsReceiveResult : Except BlockError (Option Bytes) → Prop
  | .error e => IsReceiveError e
  | .ok none => True
  | .ok (some p) => 46 ≤ p.length ∧ p.length ≤ 1500

theorem frameDecode_isReceiveError {w : Bytes} {e : BlockError} (h : frameDecode w = .error e) :
    IsReceiveError e := by
  obtain ⟨-, h'⟩ | ⟨-, h'⟩ | ⟨-, -, -, h'⟩ | ⟨-, -, -, h'⟩ := frameDecode_cases w <;>
    rw [h'] at h <;> cases h <;> trivial

theorem linkAccept_isReceiveResult (cfg : Cfg) (role : Role) (w : Bytes) :
    IsReceiveResult (linkAccept cfg role w) := by
  match h : linkAccept cfg role w with
  | .error e =>
    cases hdec : frameDecode w with
    | error e' =>
      rw [linkAccept_error hdec] at h
      cases h
      exact frameDecode_isReceiveError hdec
    | ok f =>
      rw [linkAccept_ok hdec] at h
      cases h
  | .ok none => trivial
  | .ok (some p) =>
    obtain ⟨-, -, -, -, hbound⟩ := linkAccept_some h
    exact hbound

theorem linkRx_isReceiveResult {role : Role} {t : Transform} {s s' : State}
    {r : Except BlockError (Option Bytes)} (h : linkRx role t s = .done s' r) :
    IsReceiveResult r := by
  obtain ⟨-, h'⟩ | ⟨_, _, -, -, h'⟩ | ⟨_, _, -, -, h'⟩ := linkRx_cases role t s <;>
    rw [h'] at h <;> cases h
  · trivial
  · exact linkAccept_isReceiveResult _ _ _

/-- A received payload is longer than a Message header (R95). -/
theorem msgUnpack_isReceiveError {order : LenOrder} {p : Bytes} {e : BlockError}
    (hp : IsReceiveResult (.ok (some p))) (h : msgUnpack order p = .error e) :
    IsReceiveError e := by
  obtain ⟨hmin, -⟩ := hp
  obtain ⟨hshort, -⟩ | ⟨-, -, h'⟩ | ⟨-, -, h'⟩ := msgUnpack_cases order p
  · omega
  · rw [h'] at h
    cases h
    trivial
  · rw [h'] at h
    cases h

theorem classified_out_error {m : Message} {s : State} {e : BlockError}
    (h : (classified m s).out = some (.err e)) : IsReceiveError e := by
  unfold classified at h
  split_ifs at h <;> cases h
  trivial

theorem devCycle_out_error {r : Except BlockError (Option Bytes)} {s : State} {e : BlockError}
    (hr : IsReceiveResult r) (h : (devCycle r s).out = some (.err e)) : IsReceiveError e := by
  obtain ⟨e', rfl, h'⟩ | ⟨rfl, h'⟩ | ⟨p, e', rfl, hunpack, h'⟩ | ⟨p, m, rfl, -, -, h'⟩ |
    ⟨p, m, rfl, -, -, h'⟩ := devCycle_cases r s <;> rw [h'] at h <;> cases h
  · exact hr
  · exact msgUnpack_isReceiveError hr hunpack
  · trivial

theorem hostCycle_out_error {r : Except BlockError (Option Bytes)} {s : State} {e : BlockError}
    (hr : IsReceiveResult r) (h : (hostCycle r s).out = some (.err e)) : IsReceiveError e := by
  obtain ⟨e', rfl, h'⟩ | ⟨rfl, h'⟩ | ⟨p, e', rfl, hunpack, h'⟩ | ⟨p, m, rfl, -, h'⟩ :=
    hostCycle_cases r s <;> rw [h'] at h
  · cases h; exact hr
  · cases h
  · cases h; exact msgUnpack_isReceiveError hr hunpack
  · exact classified_out_error h

/-- A poll that answers is a cycle on what a receive gave. -/
theorem exec_devPoll_next {t : Transform} {s u : State} (h : exec (.devPoll t) s = .next u) :
    ∃ s' r, linkRx .device t s = .done s' r ∧ u = devCycle r s' := by
  cases hrx : linkRx .device t s with
  | notAllowed =>
    rw [exec_devPoll_refused_iff.2 hrx] at h
    cases h
  | done s' r =>
    rw [exec_devPoll_done hrx] at h
    exact ⟨s', r, rfl, (Host.Outcome.next.inj h).symm⟩

theorem exec_hostPoll_next {t : Transform} {s u : State} (h : exec (.hostPoll t) s = .next u) :
    ∃ s' r, linkRx .host t s = .done s' r ∧ u = hostCycle r s' := by
  cases hrx : linkRx .host t s with
  | notAllowed =>
    rw [exec_hostPoll_refused_iff.2 hrx] at h
    cases h
  | done s' r =>
    rw [exec_hostPoll_done hrx] at h
    exact ⟨s', r, rfl, (Host.Outcome.next.inj h).symm⟩

theorem poll_out_error {t : Transform} {s u : State} {e : BlockError}
    (h : exec (.devPoll t) s = .next u ∨ exec (.hostPoll t) s = .next u)
    (hout : u.out = some (.err e)) : IsReceiveError e := by
  obtain h | h := h
  · obtain ⟨s', r, hrx, rfl⟩ := exec_devPoll_next h
    exact devCycle_out_error (linkRx_isReceiveResult hrx) hout
  · obtain ⟨s', r, hrx, rfl⟩ := exec_hostPoll_next h
    exact hostCycle_out_error (linkRx_isReceiveResult hrx) hout

/-! ### A Message from the peer -/

/-- A Message that fits one Frame arrives packed, under every address filter. -/
theorem linkAccept_sentFrame (cfg : Cfg) (role : Role) (kind id : Byte) {data : Bytes}
    (h : data.length ≤ 1496) :
    linkAccept cfg (otherRole role) (sentFrame cfg role kind id data) =
      .ok (some (packedMessage cfg.lenOrder kind id data)) :=
  linkAccept_carriedFrame cfg role (by rw [packedMessage_length]; omega)

/-- The Device's poll takes a COMMAND as the Host sent it. -/
theorem exec_devPoll_sentFrame (id : Byte) {data : Bytes} {s : State} {rest : List Bytes}
    (hdata : data.length ≤ 1496) (hq : s.h2d = sentFrame s.cfg .host 0x01 id data :: rest)
    (ha : corruptAllows s.params.corrupt .identity (sentFrame s.cfg .host 0x01 id data) = true) :
    exec (.devPoll .identity) s =
      .next (drives (commanded id { s with h2d := rest }) (.ok .none)) := by
  have haccept := linkAccept_sentFrame s.cfg .host 0x01 id hdata
  have hunpack := msgUnpack_packedMessage s.cfg.lenOrder 0x01 id (data := data) (by omega)
  rw [exec_devPoll_head hq ha, applyTransform]
  refine congrArg Host.Outcome.next ((congrArg₂ devCycle haccept rfl).trans ?_)
  exact devCycle_command (s := { s with h2d := rest }) hunpack rfl

/-- The Host's poll takes a Message as the Device sent it. -/
theorem exec_hostPoll_sentFrame (kind id : Byte) {data : Bytes} {s : State} {rest : List Bytes}
    (hdata : data.length ≤ 1496) (hq : s.d2h = sentFrame s.cfg .device kind id data :: rest)
    (ha : corruptAllows s.params.corrupt .identity (sentFrame s.cfg .device kind id data) = true) :
    exec (.hostPoll .identity) s = .next
      (classified ⟨kind, id, BitVec.ofNat 16 data.length, data⟩ { s with d2h := rest }) := by
  have haccept := linkAccept_sentFrame s.cfg .device kind id hdata
  have hunpack := msgUnpack_packedMessage s.cfg.lenOrder kind id (data := data) (by omega)
  rw [exec_hostPoll_head hq ha, applyTransform]
  refine congrArg Host.Outcome.next ((congrArg₂ hostCycle haccept rfl).trans ?_)
  exact hostCycle_message (s := { s with d2h := rest }) hunpack

/-- A Device that is not streaming only answers PONG. -/
theorem commanded_ping {s : State} (h : s.streaming = false) :
    commanded 0x01 s = { s with
      d2h := s.d2h ++ [sentFrame s.cfg .device 0x02 0x01 [0x50, 0x4F, 0x4E, 0x47]] } := by
  have hgate : streamGate s.cfg.streamPhase s.streaming (streamingAfter 0x01 s.streaming) = false :=
    (streamGate_self _ s.streaming).trans h
  rw [commanded, hgate, streamed_false]
  rfl

end Sys2Proof.Machine

namespace Sys2Proof

open Machine

/-- Settles O45, by the Host cycle on what the receiver makes of the Frame. -/
theorem hostPollClassifies : Obligations.HostPollClassifies := by
  intro s t
  refine ⟨fun hempty => exec_hostPoll_done (linkRx_empty (role := .host) t hempty),
    fun w rest hq ha => ?_⟩
  rw [exec_hostPoll_head hq ha]
  obtain ⟨e, hr, h⟩ | ⟨hr, h⟩ | ⟨p, e, hr, hunpack, h⟩ | ⟨p, m, hr, hunpack, h⟩ :=
    hostCycle_cases (linkAccept s.cfg .host (applyTransform t w)) { s with d2h := rest } <;>
    rw [h] <;> simp only [hr]
  · simp only [show msgUnpack s.cfg.lenOrder p = .error e from hunpack]
  · simp only [show msgUnpack s.cfg.lenOrder p = .ok m from hunpack]
    rfl

/-- Settles O43: an error of a poll comes from the receiving side. -/
theorem pollNeverReportsEncoderErrors : Obligations.PollNeverReportsEncoderErrors :=
  fun _ _ _ _ h => ⟨fun hout => poll_out_error h hout, fun hout => poll_out_error h hout,
    fun hout => poll_out_error h hout⟩

/-- Settles O46, by the meanings of the rows. -/
theorem hostRowsAct : Obligations.HostRowsAct := fun _ _ _ _ => ⟨rfl, rfl, rfl, rfl, rfl⟩

/-- Settles O48: each poll receives the one Frame that was sent before it. -/
theorem pingScenario : Obligations.PingScenario := by
  intro s hh2d hd2h hidle hidentity
  have hsend := exec_hostSendCommand_fits 0x01 (data := []) s (by decide)
  have hdev := exec_devPoll_sentFrame 0x01 (data := []) (rest := [])
    (s := drives { s with h2d := s.h2d ++ [sentFrame s.cfg .host 0x01 0x01 []] } (.ok .none))
    (by decide) (by rw [hh2d]; rfl) (hidentity _)
  have hpong := hdev.trans
    (congrArg (fun u => Host.Outcome.next (drives u (.ok .none))) (commanded_ping hidle))
  have hhost := exec_hostPoll_sentFrame 0x02 0x01 (data := [0x50, 0x4F, 0x4E, 0x47]) (rest := [])
    (s := drives { s with h2d := [], d2h := s.d2h ++
      [sentFrame s.cfg .device 0x02 0x01 [0x50, 0x4F, 0x4E, 0x47]] } (.ok .none))
    (by decide) (by rw [hd2h]; rfl) (hidentity _)
  have hsame : { s with h2d := [], d2h := [] } = s := by cases s; cases hh2d; cases hd2h; rfl
  have hevent := congrArg
    (drivesEvent · (some ⟨.response, 0x01, [0x50, 0x4F, 0x4E, 0x47]⟩)) hsame
  exact ⟨_, _, _, hsend, hpong, hhost, hevent⟩

end Sys2Proof
end

section
/-! SUPPORT and SETTLEMENTS. The whole block: everything an operation can do to the state, said once
as the relation `Effect`; the obligations on registers, channels and the block's invariant read it
off. -/

namespace Sys2Proof.Machine

/-! ### Frames that stand in a channel -/

theorem frameOnWire_carriedFrame (cfg : Cfg) (role : Role) {m : Bytes}
    (h : 46 ≤ m.length ∧ m.length ≤ 1500) : FrameOnWire (carriedFrame cfg role m) :=
  ⟨_, frameDecode_frameEncode_valid h ((frameValid_iff _).2 rfl)⟩

theorem frameOnWire_sentFrame (cfg : Cfg) (role : Role) (kind id : Byte) {data : Bytes}
    (h : data.length ≤ 1496) : FrameOnWire (sentFrame cfg role kind id data) :=
  frameOnWire_carriedFrame cfg role (by rw [packedMessage_length]; omega)

theorem frameOnWire_deviceReply (cfg : Cfg) (id : Byte) : FrameOnWire (deviceReply cfg id) := by
  unfold deviceReply
  split_ifs <;> exact frameOnWire_sentFrame _ _ _ _ (by decide)

theorem frameOnWire_telemetryFrame (s : State) : FrameOnWire (telemetryFrame s) :=
  frameOnWire_sentFrame _ _ _ _ (by simp)

/-- Everything `LINK.TX` can do to the channels (R101). -/
theorem linkTx_cases (role : Role) (m : Bytes) (s : State) :
    (∃ w, FrameOnWire w ∧ linkTx role m s = .ok (s.transmit role w)) ∨
      ∃ e, linkTx role m s = .error e := by
  by_cases h : 46 ≤ m.length ∧ m.length ≤ 1500
  · exact .inl ⟨_, frameOnWire_carriedFrame s.cfg role h, linkTx_inBounds role s h⟩
  · exact .inr ⟨_, linkTx_outOfBounds role s h⟩

theorem sendMessage_cases (role : Role) (kind id : Byte) (data : Bytes) (s : State) :
    (∃ w, FrameOnWire w ∧ sendMessage role kind id data s = .ok (s.transmit role w)) ∨
      ∃ e, sendMessage role kind id data s = .error e := by
  cases h : msgPack s.cfg.lenOrder kind id data with
  | error e => exact .inr ⟨e, by rw [sendMessage, h]⟩
  | ok m =>
    have hsend : sendMessage role kind id data s = linkTx role m s := by rw [sendMessage, h]
    rw [hsend]
    exact linkTx_cases role m s

/-! ### Everything an operation can do -/

/-- The state with the two output ports driving `o` and `e` (R20). -/
def ported (s : State) (o : Option Result) (e : Option HostEvent) : State :=
  { s with out := o, event := e }

/-- A role's poll (R107, R115). -/
def pollOf : Role → Transform → Instr
  | .device => .devPoll
  | .host => .hostPoll

/-- The operations that take the head of a role's incoming channel. -/
def Receives (role : Role) (i : Instr) : Prop := ∃ tr, i = .linkRx role tr ∨ i = pollOf role tr

/-- The operations that append to a role's outgoing channel (R37). -/
def Sends : Role → Instr → Prop
  | .host, i => (∃ m, i = .linkTx .host m) ∨ ∃ id data, i = .hostSendCommand id data
  | .device, i => DeviceSends i

theorem sends_linkTx (role : Role) (m : Bytes) : Sends role (.linkTx role m) := by
  cases role with
  | host => exact .inl ⟨m, rfl⟩
  | device => trivial

theorem sends_hostSendCommand (id : Byte) (data : Bytes) :
    Sends .host (.hostSendCommand id data) := .inr ⟨id, data, rfl⟩

/-- The operations other than `RESET` that write `CRC.ACC` (R11). -/
def WritesAcc : Instr → Prop
  | .crcInit | .crcUpdate _ | .crcChecksum _ => True
  | _ => False

/-- What an operation can do to the state `s`. -/
inductive Effect (s : State) : Instr → State → Prop
  /-- Every register and channel goes to its reset value. -/
  | reset (o e) : Effect s .reset (ported (resetBlock s) o e)
  /-- Only the ports change. -/
  | ports (i o e) : Effect s i (ported s o e)
  /-- `CRC.ACC` is written. -/
  | wroteAcc (i a o e) (hi : WritesAcc i) :
    Effect s i (ported { s with acc := a, accReady := true } o e)
  /-- A role has taken the head of its channel. -/
  | received (i role w rest o e) (hi : Receives role i) (hq : s.incoming role = w :: rest) :
    Effect s i (ported (s.setIncoming role rest) o e)
  /-- A role has sent one Frame. -/
  | sent (i role w o e) (hi : Sends role i) (hw : FrameOnWire w) :
    Effect s i (ported (s.transmit role w) o e)
  /-- START_STREAM on its own (R109). -/
  | started (data w o e) (hw : FrameOnWire w) :
    Effect s (.cmdStartStream data) (ported ((s.setStreaming true).transmit .device w) o e)
  /-- STOP_STREAM on its own (R110). -/
  | stopped (data w o e) (hw : FrameOnWire w) :
    Effect s (.cmdStopStream data) (ported ((s.setStreaming false).transmit .device w) o e)
  /-- The telemetry Message on its own (R112). -/
  | telemetry (o e) : Effect s .streamTelemetry (ported (streamed true s) o e)
  /-- A Device poll without a Message: the stream emission (R107). -/
  | polledNothing (tr gate q o e) (hq : q = s.h2d ∨ ∃ w, s.h2d = w :: q) :
    Effect s (.devPoll tr) (ported (streamed gate { s with h2d := q }) o e)
  /-- A Device poll with a COMMAND (R107). -/
  | polledCommand (tr w rest payload m o e) (hq : s.h2d = w :: rest)
      (haccept : linkAccept s.cfg .device (applyTransform tr w) = .ok (some payload))
      (hunpack : msgUnpack s.cfg.lenOrder payload = .ok m) (hkind : m.kind = 0x01) :
    Effect s (.devPoll tr) (ported (commanded m.identifier { s with h2d := rest }) o e)

theorem effect_report {α : Type} (i : Instr) (value : α → Value) (r : Except BlockError α)
    (s : State) : Effect s i (s.report value r) := by
  rw [State.report_frame]
  exact .ports i _ _

theorem effect_linkTx (role : Role) (m : Bytes) (s : State) :
    Effect s (.linkTx role m) (runEmission (linkTx role m s) s) := by
  obtain ⟨w, hw, h⟩ | ⟨e, h⟩ := linkTx_cases role m s <;> rw [h]
  · exact .sent _ role w _ _ (sends_linkTx role m) hw
  · exact .ports _ _ _

theorem effect_sendMessage {i : Instr} {role : Role} (hi : Sends role i) (kind id : Byte)
    (data : Bytes) (s : State) : Effect s i (runEmission (sendMessage role kind id data s) s) := by
  obtain ⟨w, hw, h⟩ | ⟨e, h⟩ := sendMessage_cases role kind id data s <;> rw [h]
  · exact .sent i role w _ _ hi hw
  · exact .ports i _ _

theorem effect_linkRx {role : Role} {t : Transform} {s u : State}
    (h : exec (.linkRx role t) s = .next u) : Effect s (.linkRx role t) u := by
  obtain ⟨-, hrx⟩ | ⟨w, rest, hq, -, hrx⟩ | ⟨_, _, -, -, hrx⟩ := linkRx_cases role t s
  · rw [exec_linkRx_done hrx] at h
    cases h
    exact .ports _ _ _
  · rw [exec_linkRx_done hrx, State.report_frame] at h
    cases h
    exact .received _ role w rest _ _ ⟨t, .inl rfl⟩ hq
  · rw [exec_linkRx_refused_iff.2 hrx] at h
    cases h

theorem effect_devPoll {t : Transform} {s u : State} (h : exec (.devPoll t) s = .next u) :
    Effect s (.devPoll t) u := by
  obtain ⟨s', r, hdone, rfl⟩ := exec_devPoll_next h
  have hreceives : Receives .device (.devPoll t) := ⟨t, .inr rfl⟩
  obtain ⟨-, hrx⟩ | ⟨w, rest, hq, -, hrx⟩ | ⟨_, _, -, -, hrx⟩ := linkRx_cases .device t s <;>
    rw [hrx] at hdone <;> cases hdone
  · rw [devCycle_none]
    exact .polledNothing t s.streaming s.h2d _ _ (.inl rfl)
  · obtain ⟨_, -, h'⟩ | ⟨-, h'⟩ | ⟨_, _, -, -, h'⟩ | ⟨_, _, -, -, -, h'⟩ |
      ⟨payload, m, haccept, hunpack, hkind, h'⟩ := devCycle_cases
        (linkAccept s.cfg .device (applyTransform t w)) (s.setIncoming .device rest) <;> rw [h']
    · exact .received _ .device w rest _ _ hreceives hq
    · exact .polledNothing t s.streaming rest _ _ (.inr ⟨w, hq⟩)
    · exact .received _ .device w rest _ _ hreceives hq
    · exact .received _ .device w rest _ _ hreceives hq
    · exact .polledCommand t w rest payload m _ _ hq haccept hunpack hkind

theorem classified_eq_ported (m : Message) (s : State) :
    ∃ o e, classified m s = ported s o e := by
  unfold classified
  split_ifs <;> exact ⟨_, _, rfl⟩

/-- A Host cycle writes the two output ports alone. -/
theorem hostCycle_eq_ported (r : Except BlockError (Option Bytes)) (s : State) :
    ∃ o e, hostCycle r s = ported s o e := by
  obtain ⟨_, -, h⟩ | ⟨-, h⟩ | ⟨_, _, -, -, h⟩ | ⟨_, m, -, -, h⟩ := hostCycle_cases r s <;> rw [h]
  · exact ⟨_, _, rfl⟩
  · exact ⟨_, _, rfl⟩
  · exact ⟨_, _, rfl⟩
  · exact classified_eq_ported m s

theorem effect_hostPoll {t : Transform} {s u : State} (h : exec (.hostPoll t) s = .next u) :
    Effect s (.hostPoll t) u := by
  obtain ⟨s', r, hdone, rfl⟩ := exec_hostPoll_next h
  obtain ⟨o, e, hcycle⟩ := hostCycle_eq_ported r s'
  rw [hcycle]
  obtain ⟨-, hrx⟩ | ⟨w, rest, hq, -, hrx⟩ | ⟨_, _, -, -, hrx⟩ := linkRx_cases .host t s <;>
    rw [hrx] at hdone <;> cases hdone
  · exact .ports _ _ _
  · exact .received _ .host w rest _ _ ⟨t, .inr rfl⟩ hq

/-- Everything an operation that answers can do. -/
theorem exec_effect {i : Instr} {s t : State} (h : exec i s = .next t) : Effect s i t := by
  cases i
  case reset => cases h; exact .reset _ _
  case crcInit | crcChecksum => cases h; exact .wroteAcc _ _ _ _ trivial
  case crcUpdate =>
    simp only [exec, execCrcUpdate] at h
    split at h <;> cases h
    exact .wroteAcc _ _ _ _ trivial
  case crcFinal =>
    simp only [exec, execCrcFinal] at h
    split at h <;> cases h
    exact .ports _ _ _
  case frameNew | frameDecode | frameSetDst | frameSetSrc | frameSetType | frameSetPayload |
      msgPack | msgUnpack =>
    cases h; exact effect_report _ _ _ _
  case frameEncode | frameIsValid | evtResponse | evtStream | evtError | hostReject |
      errorBadPayload | devNotCommand | typeIpv4 | typeIpv6 | typeArp =>
    cases h; exact .ports _ _ _
  case linkTx role m => cases h; exact effect_linkTx role m s
  case linkRx => exact effect_linkRx h
  case devPoll => exact effect_devPoll h
  case hostPoll => exact effect_hostPoll h
  case hostSendCommand id data =>
    cases h; exact effect_sendMessage (sends_hostSendCommand id data) _ _ _ s
  case responsePing | responseStartStream | responseStopStream | errorUnknownCmd =>
    cases h; exact effect_sendMessage (role := .device) (by trivial) _ _ _ s
  case cmdPing =>
    cases h
    rw [runHandler_ok (devHandle_ping s)]
    exact .sent _ .device _ _ _ trivial (frameOnWire_sentFrame _ _ _ _ (by decide))
  case cmdUnknown id _ =>
    cases h
    rw [runHandler_ok (devHandle_unknownCommand id s)]
    exact .sent _ .device _ _ _ trivial (frameOnWire_sentFrame _ _ _ _ (by decide))
  case cmdStartStream =>
    cases h
    rw [runHandler_ok (devHandle_startStream s)]
    exact .started _ _ _ _ (frameOnWire_sentFrame _ _ _ _ (by decide))
  case cmdStopStream =>
    cases h
    rw [runHandler_ok (devHandle_stopStream s)]
    exact .stopped _ _ _ _ (frameOnWire_sentFrame _ _ _ _ (by decide))
  case streamTelemetry =>
    cases h
    rw [runEmission_ok s (emitTelemetry_eq s)]
    exact .telemetry _ _

end Sys2Proof.Machine
end

section
/-! SUPPORT and SETTLEMENTS. What every step keeps (spec/10_state.md sections 5 and 6,
spec/20_memory.md section 5): who writes each register, the channels as queues, the block's
invariant, reset, and the obligations about them. -/

namespace Sys2Proof.Machine

/-! ### Registers -/

theorem streamingAfter_changes {id : Byte} {b : Bool} (h : streamingAfter id b ≠ b) :
    (id = 0x02 ∧ streamingAfter id b = true) ∨ (id = 0x03 ∧ streamingAfter id b = false) := by
  unfold streamingAfter at h ⊢
  split_ifs at h ⊢ with h2 h3
  · exact .inl ⟨h2, rfl⟩
  · exact .inr ⟨h3, rfl⟩
  · exact absurd rfl h

/-- The counter goes up by one with the telemetry Message of its old value (R112). -/
theorem streamed_counter (gate : Bool) (s : State) :
    (streamed gate s).counter = s.counter ∨
      ((streamed gate s).counter = s.counter + 1 ∧
        (streamed gate s).d2h = s.d2h ++ [telemetryFrame s]) := by
  cases gate with
  | false => exact .inl rfl
  | true => exact .inr ⟨rfl, rfl⟩

theorem writesAcc_cases {i : Instr} (h : WritesAcc i) :
    i = .crcInit ∨ (∃ b, i = .crcUpdate b) ∨ ∃ c, i = .crcChecksum c := by
  cases i
  case crcInit => exact .inl rfl
  case crcUpdate b => exact .inr (.inl ⟨b, rfl⟩)
  case crcChecksum c => exact .inr (.inr ⟨c, rfl⟩)
  all_goals cases h

/-! ### The channels as queues (R21, R36, R37) -/

/-- The Device-to-Host channel has gained Frames at its tail, as the Device's operations add
them. -/
def AppendsFrames (i : Instr) (s t : State) : Prop :=
  ∃ ws : List Bytes, t.d2h = s.d2h ++ ws ∧ (∀ w ∈ ws, FrameOnWire w) ∧
    (ws = [] ∨ DeviceSends i) ∧ (ws.length ≤ 1 ∨ (ws.length = 2 ∧ ∃ tr, i = .devPoll tr))

section Appends

variable {i : Instr} {s t : State}

theorem appendsFrames_none (h : t.d2h = s.d2h) : AppendsFrames i s t :=
  ⟨[], h.trans (List.append_nil _).symm, nofun, .inl rfl, .inl (Nat.zero_le 1)⟩

theorem appendsFrames_one {w : Bytes} (hi : DeviceSends i) (hw : FrameOnWire w)
    (h : t.d2h = s.d2h ++ [w]) : AppendsFrames i s t :=
  ⟨[w], h, List.forall_mem_singleton.2 hw, .inr hi, .inl (Nat.le_refl 1)⟩

/-- The stream part of a poll adds at most the telemetry Message to what the command added. -/
theorem appendsFrames_streamed {tr : Transform} (gate : Bool) (ws : List Bytes) {u : State}
    (hws : ∀ w ∈ ws, FrameOnWire w) (hlength : ws.length ≤ 1) (hu : u.d2h = s.d2h ++ ws)
    (ht : t.d2h = (streamed gate u).d2h) : AppendsFrames (.devPoll tr) s t := by
  have htele : ∀ w ∈ if gate then [telemetryFrame u] else [], FrameOnWire w := by
    cases gate with
    | false => nofun
    | true => exact List.forall_mem_singleton.2 (frameOnWire_telemetryFrame u)
  have hcount : (if gate then [telemetryFrame u] else []).length ≤ 1 := by cases gate <;> simp
  refine ⟨ws ++ if gate then [telemetryFrame u] else [], ?_,
    List.forall_mem_append.2 ⟨hws, htele⟩, .inr trivial, ?_⟩
  · rw [ht, ← List.append_assoc, ← hu]
    rfl
  · rw [List.length_append]
    by_cases hone : ws.length + (if gate then [telemetryFrame u] else []).length ≤ 1
    · exact .inl hone
    · exact .inr ⟨by omega, tr, rfl⟩

theorem effect_h2d (h : Effect s i t) (hi : i ≠ .reset) :
    t.h2d = s.h2d ∨ (Receives .device i ∧ ∃ w, s.h2d = w :: t.h2d) ∨
      (Sends .host i ∧ ∃ w, t.h2d = s.h2d ++ [w] ∧ FrameOnWire w) := by
  cases h with
  | reset => exact absurd rfl hi
  | ports | wroteAcc | started | stopped | telemetry => exact .inl rfl
  | received _ role w rest _ _ hreceives hq =>
    cases role with
    | host => exact .inl rfl
    | device => exact .inr (.inl ⟨hreceives, w, hq⟩)
  | sent _ role w _ _ hsends hw =>
    cases role with
    | host => exact .inr (.inr ⟨hsends, w, rfl, hw⟩)
    | device => exact .inl rfl
  | polledNothing tr gate q _ _ hq =>
    obtain rfl | ⟨w, hq⟩ := hq
    · exact .inl rfl
    · exact .inr (.inl ⟨⟨tr, .inr rfl⟩, w, hq⟩)
  | polledCommand tr w rest payload m _ _ hq => exact .inr (.inl ⟨⟨tr, .inr rfl⟩, w, hq⟩)

theorem effect_d2h (h : Effect s i t) (hi : i ≠ .reset) :
    (Receives .host i ∧ ∃ w, s.d2h = w :: t.d2h) ∨ AppendsFrames i s t := by
  cases h with
  | reset => exact absurd rfl hi
  | ports | wroteAcc => exact .inr (appendsFrames_none rfl)
  | started _ w _ _ hw | stopped _ w _ _ hw => exact .inr (appendsFrames_one trivial hw rfl)
  | telemetry => exact .inr (appendsFrames_one trivial (frameOnWire_telemetryFrame s) rfl)
  | received _ role w rest _ _ hreceives hq =>
    cases role with
    | host => exact .inl ⟨hreceives, w, hq⟩
    | device => exact .inr (appendsFrames_none rfl)
  | sent _ role w _ _ hsends hw =>
    cases role with
    | host => exact .inr (appendsFrames_none rfl)
    | device => exact .inr (appendsFrames_one hsends hw rfl)
  | polledNothing tr gate q =>
    exact .inr (appendsFrames_streamed gate [] nofun (Nat.zero_le 1) (List.append_nil _).symm rfl)
  | polledCommand tr w rest payload m =>
    exact .inr (appendsFrames_streamed _ [deviceReply s.cfg m.identifier]
      (List.forall_mem_singleton.2 (frameOnWire_deviceReply _ _)) (Nat.le_refl 1) rfl rfl)

end Appends

/-! ### The result port (R76, R90) -/

theorem report_outputFits {α : Type} {value : α → Value} {r : Except BlockError α} (s : State)
    (h : ∀ a, r = .ok a → OutputFits (some (.ok (value a)))) :
    OutputFits (s.report value r).out := by
  cases r with
  | ok a => exact h a rfl
  | error e => trivial

theorem runEmission_outputFits (r : Except BlockError State) (s : State) :
    OutputFits (runEmission r s).out := by
  cases r <;> trivial

theorem runHandler_outputFits (h : DevHeader) (s : State) : OutputFits (runHandler h s).out := by
  unfold runHandler
  split <;> trivial

theorem devCycle_outputFits (r : Except BlockError (Option Bytes)) (s : State) :
    OutputFits (devCycle r s).out := by
  obtain ⟨_, -, h⟩ | ⟨-, h⟩ | ⟨_, _, -, -, h⟩ | ⟨_, _, -, -, -, h⟩ | ⟨_, _, -, -, -, h⟩ :=
    devCycle_cases r s <;> rw [h] <;> trivial

theorem classified_outputFits (m : Message) (s : State) : OutputFits (classified m s).out := by
  unfold classified
  split_ifs <;> trivial

theorem hostCycle_outputFits (r : Except BlockError (Option Bytes)) (s : State) :
    OutputFits (hostCycle r s).out := by
  obtain ⟨_, -, h⟩ | ⟨-, h⟩ | ⟨_, _, -, -, h⟩ | ⟨_, m, -, -, h⟩ := hostCycle_cases r s <;> rw [h]
  · trivial
  · trivial
  · trivial
  · exact classified_outputFits m s

theorem linkRx_outputFits {role : Role} {t : Transform} {s u : State}
    (h : exec (.linkRx role t) s = .next u) : OutputFits u.out := by
  cases hrx : linkRx role t s with
  | notAllowed =>
    rw [exec_linkRx_refused_iff.2 hrx] at h
    cases h
  | done s' r =>
    rw [exec_linkRx_done hrx] at h
    cases h
    refine report_outputFits s' fun received hr => ?_
    have hresult := linkRx_isReceiveResult hrx
    rw [hr] at hresult
    cases received with
    | none => trivial
    | some p => exact hresult

/-- Whatever the state before, the result port is well formed after an operation. -/
theorem exec_outputFits {i : Instr} {s t : State} (h : exec i s = .next t) : OutputFits t.out := by
  cases i
  case frameNew | frameSetDst | frameSetSrc | frameSetType =>
    cases h; exact report_outputFits s fun f hf => (frameNew_ok hf).1
  case frameDecode => cases h; exact report_outputFits s fun f hf => frameDecode_wellFormed hf
  case frameSetPayload =>
    cases h; exact report_outputFits s fun f hf => frameSetPayload_wellFormed hf
  case msgPack => cases h; exact report_outputFits s fun _ _ => trivial
  case msgUnpack => cases h; exact report_outputFits s fun m hm => msgUnpack_length hm
  case reset | crcInit | crcChecksum | frameEncode | frameIsValid | evtResponse | evtStream |
      evtError | hostReject | errorBadPayload | typeIpv4 | typeIpv6 | typeArp =>
    cases h; trivial
  case crcUpdate | crcFinal =>
    simp only [exec, execCrcUpdate, execCrcFinal] at h
    split at h <;> cases h
    trivial
  case linkTx | hostSendCommand | responsePing | responseStartStream | responseStopStream |
      streamTelemetry | errorUnknownCmd =>
    cases h; exact runEmission_outputFits _ _
  case cmdPing | cmdStartStream | cmdStopStream | cmdUnknown | devNotCommand =>
    cases h; exact runHandler_outputFits _ _
  case linkRx => exact linkRx_outputFits h
  case devPoll =>
    obtain ⟨_, _, -, rfl⟩ := exec_devPoll_next h
    exact devCycle_outputFits _ _
  case hostPoll =>
    obtain ⟨_, _, -, rfl⟩ := exec_hostPoll_next h
    exact hostCycle_outputFits _ _

/-! ### A step that answers -/

/-- A step that answers is idle, or an operation in the state that has consumed its request. -/
theorem step_next {s t : State} (h : step s = .next t) :
    t = { s with out := none, event := none } ∨
      ∃ i rest, exec i { s with pending := rest } = .next t := by
  cases hpending : s.pending with
  | nil =>
    rw [step_of_idle hpending] at h
    exact .inl ((Host.Outcome.next.inj h).symm.trans (by rw [hpending]))
  | cons r rest =>
    cases hdecode : decode s.params r with
    | ok i =>
      rw [step_of_decode_ok hpending hdecode] at h
      exact .inr ⟨i, rest, h⟩
    | error e =>
      rw [step_of_decode_error hpending hdecode] at h
      cases h

end Sys2Proof.Machine

namespace Sys2Proof

open Machine

/-- Settles O52, by the effects that write `DEV.STREAMING`. -/
theorem streamingChangesOnlyByCommand : Obligations.StreamingChangesOnlyByCommand := by
  intro i s t h hne
  cases exec_effect h with
  | reset => exact .inl rfl
  | ports | wroteAcc | telemetry | polledNothing => exact absurd rfl hne
  | received _ role _ rest => exact absurd (s.setIncoming_streaming role rest) hne
  | sent _ role w => exact absurd (State.transmit_streaming role w s) hne
  | started data => exact .inr (.inl ⟨data, rfl, rfl⟩)
  | stopped data => exact .inr (.inr (.inl ⟨data, rfl, rfl⟩))
  | polledCommand tr w rest payload m _ _ hq haccept hunpack hkind =>
    exact .inr (.inr (.inr ⟨tr, w, rest, payload, m, rfl, hq, haccept, hunpack, hkind,
      streamingAfter_changes hne⟩))

/-- Settles O53, by the effects that write `DEV.COUNTER`, each of them the stream emission. -/
theorem counterCountsTelemetry : Obligations.CounterCountsTelemetry := by
  intro i s t h hi
  cases exec_effect h with
  | reset => exact absurd rfl hi
  | ports | wroteAcc | started | stopped => exact .inl rfl
  | received _ role _ rest => exact .inl (State.setIncoming_counter role rest s)
  | sent _ role w => exact .inl (State.transmit_counter role w s)
  | telemetry =>
    exact .inr ⟨rfl, .inl rfl, [], Nat.zero_le 1, by rw [List.append_nil]; rfl⟩
  | polledNothing tr gate q =>
    obtain hsame | ⟨hcount, hd2h⟩ := streamed_counter gate { s with h2d := q }
    · exact .inl hsame
    · exact .inr ⟨hcount, .inr ⟨tr, rfl⟩, [], Nat.zero_le 1, by rw [List.append_nil]; exact hd2h⟩
  | polledCommand tr w rest payload m =>
    obtain hsame | ⟨hcount, hd2h⟩ := streamed_counter
      (streamGate s.cfg.streamPhase s.streaming (streamingAfter m.identifier s.streaming))
      { s with
        h2d := rest
        streaming := streamingAfter m.identifier s.streaming
        d2h := s.d2h ++ [deviceReply s.cfg m.identifier] }
    · exact .inl hsame
    · exact .inr ⟨hcount, .inr ⟨tr, rfl⟩, [deviceReply s.cfg m.identifier], Nat.le_refl 1, hd2h⟩

/-- Settles O54: no effect but that of reset and those of the CRC operations writes what is
named. -/
theorem configurationIsReadOnly : Obligations.ConfigurationIsReadOnly := by
  intro i s t h
  cases exec_effect h with
  | reset => exact ⟨rfl, rfl, fun hi => absurd rfl hi, fun hi => absurd rfl hi⟩
  | wroteAcc _ _ _ _ hi =>
    refine ⟨rfl, rfl, fun _ => rfl, fun _ hinit hupdate hchecksum => ?_⟩
    obtain rfl | ⟨b, rfl⟩ | ⟨c, rfl⟩ := writesAcc_cases hi
    · exact absurd rfl hinit
    · exact absurd rfl (hupdate b)
    · exact absurd rfl (hchecksum c)
  | received _ role | sent _ role =>
    cases role <;> exact ⟨rfl, rfl, fun _ => rfl, fun _ _ _ _ => ⟨rfl, rfl⟩⟩
  | ports | started | stopped | telemetry | polledNothing | polledCommand =>
    exact ⟨rfl, rfl, fun _ => rfl, fun _ _ _ _ => ⟨rfl, rfl⟩⟩

/-- Settles O58, by what each effect does to the two channels. -/
theorem channelsAreFifo : Obligations.ChannelsAreFifo :=
  fun _ _ _ h hi => ⟨effect_h2d (exec_effect h) hi, effect_d2h (exec_effect h) hi⟩

/-- Settles O51: after reset both channels are empty and the result port drives nothing. -/
theorem resetIsGoodState : Obligations.ResetIsGoodState :=
  ⟨⟨rfl, nofun, nofun, trivial⟩, fun _ => ⟨rfl, nofun, nofun, trivial⟩⟩

/-- Every operation keeps the invariant: the channels as queues, the configuration as read-only. -/
theorem goodState_exec {i : Instr} {s t : State} (hgood : GoodState s) (h : exec i s = .next t) :
    GoodState t := by
  by_cases hi : i = .reset
  · subst hi
    cases h
    exact ⟨rfl, nofun, nofun, trivial⟩
  obtain ⟨hconfig, hh2d, hd2h, -⟩ := hgood
  obtain ⟨hparams, -, hcfg, -⟩ := configurationIsReadOnly i s t h
  obtain ⟨hin, hout⟩ := channelsAreFifo i s t h hi
  refine ⟨(hcfg hi).trans (hconfig.trans (by rw [hparams])), ?_, ?_, exec_outputFits h⟩
  · obtain hsame | ⟨-, w, hhead⟩ | ⟨-, w, htail, hw⟩ := hin
    · rw [hsame]
      exact hh2d
    · rw [hhead] at hh2d
      exact (List.forall_mem_cons.1 hh2d).2
    · rw [htail]
      exact List.forall_mem_append.2 ⟨hh2d, List.forall_mem_singleton.2 hw⟩
  · obtain ⟨-, w, hhead⟩ | ⟨ws, htail, hws, -⟩ := hout
    · rw [hhead] at hd2h
      exact (List.forall_mem_cons.1 hd2h).2
    · rw [htail]
      exact List.forall_mem_append.2 ⟨hd2h, hws⟩

/-- Settles O50: the idle step clears the ports, and every operation keeps the invariant. -/
theorem stepKeepsGoodState : Obligations.StepKeepsGoodState := by
  intro s t hgood h
  obtain rfl | ⟨i, rest, hexec⟩ := step_next h
  · obtain ⟨hconfig, hh2d, hd2h, -⟩ := hgood
    exact ⟨hconfig, hh2d, hd2h, trivial⟩
  · exact goodState_exec (s := { s with pending := rest }) hgood hexec

/-- Settles O1, by the definition of the state after reset. -/
theorem resetLeavesSpecValues : Obligations.ResetLeavesSpecValues :=
  ⟨fun _ => ⟨rfl, rfl, rfl, rfl, rfl, rfl, rfl, rfl, rfl, rfl⟩,
    ⟨rfl, rfl, rfl, rfl, rfl, rfl, rfl, rfl, rfl, rfl⟩, fun _ _ _ => rfl⟩

/-- Settles O2, by the meaning of `RESET`. -/
theorem resetOperationRestoresReset : Obligations.ResetOperationRestoresReset :=
  fun _ => ⟨accAtReset, rfl⟩

end Sys2Proof
end

section
/-! SUPPORT and SETTLEMENTS. What operations do not read (spec/10_state.md sections 5 and 7,
spec/20_memory.md section 6): a change of the state that the link adapter does not see commutes with
sending and receiving; the obligations on the output ports, the codecs and the Host's operations
follow. -/

namespace Sys2Proof.Machine

/-! ### Changes that the link adapter does not see -/

/-- A change of the state that leaves the configuration, the parameters and the channels alone, and
that a channel operation may come before or after. -/
structure Unseen (g : State → State) : Prop where
  cfg (s : State) : (g s).cfg = s.cfg
  params (s : State) : (g s).params = s.params
  incoming (s : State) (role : Role) : (g s).incoming role = s.incoming role
  setIncoming (s : State) (role : Role) (q : List Bytes) :
    (g s).setIncoming role q = g (s.setIncoming role q)
  transmit (s : State) (role : Role) (w : Bytes) : (g s).transmit role w = g (s.transmit role w)

/-- Driving other results is such a change (R20). -/
theorem unseen_ported (o : Option Result) (e : Option HostEvent) : Unseen (ported · o e) where
  cfg _ := rfl
  params _ := rfl
  incoming _ role := by cases role <;> rfl
  setIncoming _ role _ := by cases role <;> rfl
  transmit _ role _ := by cases role <;> rfl

/-- The state with other Device registers (R16, R17). -/
def withDevice (b : Bool) (c : Word32) (s : State) : State :=
  { s with streaming := b, counter := c }

theorem unseen_withDevice (b : Bool) (c : Word32) : Unseen (withDevice b c) where
  cfg _ := rfl
  params _ := rfl
  incoming _ role := by cases role <;> rfl
  setIncoming _ role _ := by cases role <;> rfl
  transmit _ role _ := by cases role <;> rfl

section Unseen

variable {g : State → State} (hg : Unseen g)
include hg

theorem linkTx_unseen (role : Role) (m : Bytes) (s : State) :
    linkTx role m (g s) = (linkTx role m s).map g := by
  by_cases h : 46 ≤ m.length ∧ m.length ≤ 1500
  · rw [linkTx_inBounds role (g s) h, linkTx_inBounds role s h, hg.cfg, hg.transmit]
    rfl
  · rw [linkTx_outOfBounds role (g s) h, linkTx_outOfBounds role s h]
    rfl

theorem sendMessage_unseen (role : Role) (kind id : Byte) (data : Bytes) (s : State) :
    sendMessage role kind id data (g s) = (sendMessage role kind id data s).map g := by
  rw [sendMessage, sendMessage, hg.cfg]
  cases msgPack s.cfg.lenOrder kind id data with
  | error e => rfl
  | ok m => exact linkTx_unseen hg role m s

theorem linkRx_unseen (role : Role) (t : Transform) (s : State) :
    (linkRx role t s = .notAllowed ∧ linkRx role t (g s) = .notAllowed) ∨
      ∃ s' r, linkRx role t s = .done s' r ∧ linkRx role t (g s) = .done (g s') r := by
  obtain ⟨hq, h⟩ | ⟨w, rest, hq, ha, h⟩ | ⟨w, rest, hq, ha, h⟩ := linkRx_cases role t s
  · exact .inr ⟨s, _, h, linkRx_empty t ((hg.incoming s role).trans hq)⟩
  · refine .inr ⟨_, _, h, ?_⟩
    rw [linkRx_head ((hg.incoming s role).trans hq) ((hg.params s).symm ▸ ha), hg.setIncoming,
      hg.cfg]
  · exact .inl ⟨h, linkRx_outside ((hg.incoming s role).trans hq) ((hg.params s).symm ▸ ha)⟩

end Unseen

/-! ### No operation reads the output ports (R20) -/

section Ports

variable (s : State) (o : Option Result) (e : Option HostEvent)

theorem report_ported {α : Type} (value : α → Value) (r : Except BlockError α) :
    (ported s o e).report value r = s.report value r := by
  cases r <;> rfl

/-- An emission that only carries the ports along drives the same from either state. -/
theorem runEmission_ported {r r' : Except BlockError State} (h : r' = r.map (ported · o e)) :
    runEmission r' (ported s o e) = runEmission r s := by
  subst h
  cases r <;> rfl

theorem devHandle_ported (h : DevHeader) :
    devHandle h (ported s o e) = (devHandle h s).map (ported · o e) := by
  cases h with
  | ping => rw [devHandle_ping, devHandle_ping]; rfl
  | startStream => rw [devHandle_startStream, devHandle_startStream]; rfl
  | stopStream => rw [devHandle_stopStream, devHandle_stopStream]; rfl
  | unknownCommand id => rw [devHandle_unknownCommand, devHandle_unknownCommand]; rfl
  | notCommand => rfl

theorem runHandler_ported (h : DevHeader) : runHandler h (ported s o e) = runHandler h s := by
  rw [runHandler, runHandler, devHandle_ported]
  cases devHandle h s <;> rfl

theorem devCycle_ported (r : Except BlockError (Option Bytes)) :
    devCycle r (ported s o e) = devCycle r s := by
  obtain ⟨_, rfl, h⟩ | ⟨rfl, h⟩ | ⟨p, _, rfl, hunpack, h⟩ | ⟨p, m, rfl, hunpack, hkind, h⟩ |
    ⟨p, m, rfl, hunpack, hkind, h⟩ := devCycle_cases r s <;> rw [h]
  · rfl
  · exact devCycle_none (ported s o e)
  · exact devCycle_unpack_error (s := ported s o e) hunpack
  · exact devCycle_otherKind (s := ported s o e) hunpack hkind
  · exact devCycle_command (s := ported s o e) hunpack hkind

theorem classified_ported (m : Message) : classified m (ported s o e) = classified m s := by
  rw [classified, classified]
  split_ifs <;> rfl

theorem hostCycle_ported (r : Except BlockError (Option Bytes)) :
    hostCycle r (ported s o e) = hostCycle r s := by
  obtain ⟨_, rfl, h⟩ | ⟨rfl, h⟩ | ⟨p, _, rfl, hunpack, h⟩ | ⟨p, m, rfl, hunpack, h⟩ :=
    hostCycle_cases r s <;> rw [h]
  · rfl
  · rfl
  · exact hostCycle_unpack_error (s := ported s o e) hunpack
  · exact (hostCycle_message (s := ported s o e) hunpack).trans (classified_ported s o e m)

theorem exec_ported (i : Instr) : exec i (ported s o e) = exec i s := by
  have hg := unseen_ported o e
  cases i
  case reset | crcInit | crcUpdate | crcFinal | crcChecksum | frameEncode | frameIsValid |
      evtResponse | evtStream | evtError | hostReject | errorBadPayload | typeIpv4 | typeIpv6 |
      typeArp =>
    rfl
  case frameNew | frameDecode | frameSetDst | frameSetSrc | frameSetType | frameSetPayload |
      msgPack | msgUnpack =>
    exact congrArg Host.Outcome.next (report_ported s o e _ _)
  case linkTx role m =>
    exact congrArg Host.Outcome.next (runEmission_ported s o e (linkTx_unseen hg role m s))
  case hostSendCommand | responsePing | responseStartStream | responseStopStream |
      errorUnknownCmd =>
    exact congrArg Host.Outcome.next (runEmission_ported s o e (sendMessage_unseen hg _ _ _ _ s))
  case streamTelemetry =>
    refine congrArg Host.Outcome.next (runEmission_ported s o e ?_)
    rw [emitTelemetry_eq, emitTelemetry_eq]
    rfl
  case cmdPing | cmdStartStream | cmdStopStream | cmdUnknown | devNotCommand =>
    exact congrArg Host.Outcome.next (runHandler_ported s o e _)
  case linkRx role t =>
    obtain ⟨h, h'⟩ | ⟨s', r, h, h'⟩ := linkRx_unseen hg role t s
    · rw [exec_linkRx_refused_iff.2 h, exec_linkRx_refused_iff.2 h']
    · rw [exec_linkRx_done h, exec_linkRx_done h', report_ported]
  case devPoll t =>
    obtain ⟨h, h'⟩ | ⟨s', r, h, h'⟩ := linkRx_unseen hg .device t s
    · rw [exec_devPoll_refused_iff.2 h, exec_devPoll_refused_iff.2 h']
    · rw [exec_devPoll_done h, exec_devPoll_done h', devCycle_ported]
  case hostPoll t =>
    obtain ⟨h, h'⟩ | ⟨s', r, h, h'⟩ := linkRx_unseen hg .host t s
    · rw [exec_hostPoll_refused_iff.2 h, exec_hostPoll_refused_iff.2 h']
    · rw [exec_hostPoll_done h, exec_hostPoll_done h', hostCycle_ported]

theorem step_ported : step (ported s o e) = step s := by
  cases hpending : s.pending with
  | nil => rw [step_of_idle hpending, step_of_idle (s := ported s o e) hpending]; rfl
  | cons r rest =>
    cases hdecode : decode s.params r with
    | ok i =>
      rw [step_of_decode_ok hpending hdecode,
        step_of_decode_ok (s := ported s o e) hpending hdecode]
      exact exec_ported { s with pending := rest } o e i
    | error d =>
      rw [step_of_decode_error hpending hdecode,
        step_of_decode_error (s := ported s o e) hpending hdecode]

end Ports

/-! ### The codec operations (R10, R42) -/

/-- What a report drives does not depend on the state. -/
theorem report_eq_drives {α : Type} (value : α → Value) (r : Except BlockError α) :
    ∃ result, ∀ s : State, s.report value r = drives s result := by
  cases r with
  | ok a => exact ⟨.ok (value a), fun _ => rfl⟩
  | error e => exact ⟨.err e, fun _ => rfl⟩

/-- An operation that reports one answer in two states drives the same result in both. -/
theorem drives_of_report {i : Instr} {s s' : State} {α : Type} (value : α → Value)
    (r : Except BlockError α) (h : exec i s = .next (s.report value r))
    (h' : exec i s' = .next (s'.report value r)) :
    ∃ result, exec i s = .next (drives s result) ∧ exec i s' = .next (drives s' result) := by
  obtain ⟨result, hreport⟩ := report_eq_drives value r
  exact ⟨result, by rw [h, hreport], by rw [h', hreport]⟩

/-! ### The Host's operations (R133) -/

theorem hostCycle_withDevice (b : Bool) (c : Word32) (r : Except BlockError (Option Bytes))
    (s : State) : hostCycle r (withDevice b c s) = withDevice b c (hostCycle r s) := by
  obtain ⟨_, rfl, h⟩ | ⟨rfl, h⟩ | ⟨p, _, rfl, hunpack, h⟩ | ⟨p, m, rfl, hunpack, h⟩ :=
    hostCycle_cases r s <;> rw [h]
  · rfl
  · rfl
  · exact hostCycle_unpack_error (s := withDevice b c s) hunpack
  · rw [hostCycle_message (s := withDevice b c s) hunpack, classified, classified]
    split_ifs <;> rfl

theorem exec_withDevice {i : Instr} (hi : IsHostOperation i) (b : Bool) (c : Word32) {s t : State}
    (h : exec i s = .next t) : exec i (withDevice b c s) = .next (withDevice b c t) := by
  have hg := unseen_withDevice b c
  cases i
  case hostSendCommand id data =>
    cases h
    refine congrArg Host.Outcome.next ?_
    rw [sendMessage_unseen hg]
    cases sendMessage .host kindCommand id data s <;> rfl
  case hostPoll tr =>
    obtain ⟨hrx, hrx'⟩ | ⟨s', r, hrx, hrx'⟩ := linkRx_unseen hg .host tr s
    · rw [exec_hostPoll_refused_iff.2 hrx] at h
      cases h
    · rw [exec_hostPoll_done hrx] at h
      cases h
      rw [exec_hostPoll_done hrx', hostCycle_withDevice]
  all_goals cases hi

end Sys2Proof.Machine

namespace Sys2Proof

open Machine

/-- Settles O55: every operation, and the decoder of the step, comes to the same from either
state. -/
theorem resultsAreNeverRead : Obligations.ResultsAreNeverRead :=
  fun i s o e => ⟨exec_ported s o e i, step_ported s o e⟩

/-- Settles O56: each codec operation reports an answer made of its operands and the length
order. -/
theorem codecsArePure : Obligations.CodecsArePure := by
  intro i s s' hi horder
  cases i
  case frameNew | frameDecode | frameSetDst | frameSetSrc | frameSetType | frameSetPayload =>
    exact drives_of_report .frame _ rfl rfl
  case frameEncode | frameIsValid => exact ⟨_, rfl, rfl⟩
  case msgPack kind id data =>
    exact drives_of_report .bytes (msgPack s.cfg.lenOrder kind id data) rfl (by rw [horder]; rfl)
  case msgUnpack p =>
    exact drives_of_report .message (msgUnpack s.cfg.lenOrder p) rfl (by rw [horder]; rfl)
  all_goals cases hi

/-- Settles O57: the Host's operations carry the Device's registers along, and by O52 and O53 do not
write them. -/
theorem hostIgnoresDeviceRegisters : Obligations.HostIgnoresDeviceRegisters := by
  intro i s t b c hi h
  refine ⟨exec_withDevice hi b c h, ?_, ?_⟩
  · by_contra hne
    obtain rfl | ⟨_, rfl, -⟩ | ⟨_, rfl, -⟩ | ⟨_, _, _, _, _, rfl, -⟩ :=
      streamingChangesOnlyByCommand i s t h hne <;> exact hi
  · have hreset : i ≠ .reset := by
      rintro rfl
      exact hi
    obtain hsame | ⟨-, rfl | ⟨_, rfl⟩, -⟩ := counterCountsTelemetry i s t h hreset
    · exact hsame
    · exact hi.elim
    · exact hi.elim

/-- Settles O47, by the meanings of the three rows. -/
theorem namedTypeTagsAreNumbers : Obligations.NamedTypeTagsAreNumbers :=
  fun _ => ⟨rfl, rfl, rfl⟩

/-- Settles O49, by the tables of codes and classes. -/
theorem errorCodesAndClasses : Obligations.ErrorCodesAndClasses :=
  fun _ _ _ => ⟨⟨rfl, rfl⟩, ⟨rfl, rfl⟩, ⟨rfl, rfl⟩, ⟨rfl, rfl⟩, ⟨rfl, rfl⟩, ⟨rfl, rfl⟩, ⟨rfl, rfl⟩,
    ⟨rfl, rfl⟩⟩

end Sys2Proof
end
